-- ==== Sys2Proof/Word.lean ====
section
/-! DEFINITION. The bit-vector widths of SBUS-FSV (spec/00_scope.md R8, spec/30_encoding.md R75): a frame byte, an
11-bit raw channel value, a 4-bit unit index and the 32-bit command word. -/

namespace Sys2Proof

/-- One byte of a frame (R50). -/
abbrev Byte := BitVec 8

/-- An 11-bit unsigned raw channel value, 0..2047 (R29, R57). -/
abbrev Raw := BitVec 11

/-- The UNIT field of a command word (R76). -/
abbrev UnitIx := BitVec 4

/-- The command word on port `cmd` (R75). -/
abbrev CmdWord := BitVec 32

end Sys2Proof
end

