-- ==== Sys2Proof/Syntax.lean ====
section
/-! DEFINITION. The operations of the command port, one constructor per row of spec/opcode_table.json
(spec/30_encoding.md R76). -/

namespace Sys2Proof

/-- An operation of SBUS-FSV. ENCODE's operand is not in the command word: it stands on the `enc_*` ports of the same
cycle (R80), so the constructor carries none. -/
inductive Instr where
  /-- NOP (R105). -/
  | nop
  /-- PUSH_BYTE with BYTE = `b` (R100). -/
  | pushByte (b : Byte)
  /-- IDLE_GAP (R104). -/
  | idleGap
  /-- DECODE (R134). -/
  | decode
  /-- ENCODE (R135). -/
  | encode
  /-- TRACK_ADD with UNIT = `t`, VAL = `v` (R161). -/
  | trackAdd (t : UnitIx) (v : Raw)
  /-- CLASSIFY_TRI with UNIT = `u`, VAL = `v` (R184). -/
  | classifyTri (u : UnitIx) (v : Raw)
  /-- CLASSIFY_BIN with UNIT = `u`, VAL = `v` (R186). -/
  | classifyBin (u : UnitIx) (v : Raw)
  /-- A reserved op code, 0x8..0xF (R78, R224). -/
  | reserved (op : BitVec 4)
deriving DecidableEq, Repr

end Sys2Proof
end

