-- ==== Sys2Proof/WellFormed.lean ====
section
/-! DEFINITION. Which terms of `Instr` stand for a command word. Every operand value of every operation is legal
(spec/30_encoding.md R78: "Nothing else is illegal"); the one check is that RESERVED carries a reserved op code. -/

namespace Sys2Proof

/-- The op codes that R76 reserves: 0x8..0xF. -/
abbrev isReservedOp (op : BitVec 4) : Bool := decide (8 ≤ op.toNat)

/-- An operation that some command word decodes to. -/
def Instr.wf : Instr → Bool
  | .nop => true
  | .pushByte _ => true
  | .idleGap => true
  | .decode => true
  | .encode => true
  | .trackAdd _ _ => true
  | .classifyTri _ _ => true
  | .classifyBin _ _ => true
  | .reserved op => isReservedOp op

end Sys2Proof
end

