-- ==== Sys2Proof/Decode.lean ====
section
/-! DEFINITION. The command-word decoder and encoder (spec/30_encoding.md R76 to R79), and the opcode table as rows
of mask and pattern (spec/opcode_table.json). -/

namespace Sys2Proof

/-- OP = `cmd[3:0]` (R76). -/
def opField (w : CmdWord) : BitVec 4 := w.extractLsb' 0 4

/-- UNIT = `cmd[7:4]` (R76, R77). -/
def unitField (w : CmdWord) : UnitIx := w.extractLsb' 4 4

/-- VAL = `cmd[18:8]`, unsigned (R76, R77). -/
def valField (w : CmdWord) : Raw := w.extractLsb' 8 11

/-- BYTE = `cmd[15:8]`, unsigned (R76, R77). -/
def byteField (w : CmdWord) : Byte := w.extractLsb' 8 8

/-- The operation a command word selects, from `cmd[3:0]` alone; fields the operation does not use and bits 31:19 are
ignored (R76). Total: every word is an operation, op codes 0x8..0xF being the reserved one (R78). -/
def decodeWord (w : CmdWord) : Instr :=
  match (opField w).toNat with
  | 0 => .nop
  | 1 => .pushByte (byteField w)
  | 2 => .idleGap
  | 3 => .decode
  | 4 => .encode
  | 5 => .trackAdd (unitField w) (valField w)
  | 6 => .classifyTri (unitField w) (valField w)
  | 7 => .classifyBin (unitField w) (valField w)
  | _ => .reserved (opField w)

/-- Why a bit string is no command. -/
inductive DecodeError where
  /-- The string has more than the 32 bits of a command word: a command is one 32-bit word, with no prefixes and no
  longer form (R79). Raised by `decodeBits`; safe. -/
  | longerThanOneWord (nbits : Nat)
deriving DecidableEq, Repr

/-- Decode `nbits` bits, numbered from 0 at the least significant end; the bits of the word above `nbits` are 0. -/
def decodeBits (nbits w : Nat) : Except DecodeError Instr :=
  if nbits ≤ 32 then .ok (decodeWord (BitVec.ofNat 32 (w % 2 ^ nbits)))
  else .error (.longerThanOneWord nbits)

/-- The host's probe of the decoder. A command is one 32-bit word (R79) and has no byte order of its own. -/
def decodeTableWord (nbits w : Nat) : Option Instr :=
  match decodeBits nbits w with
  | .ok i => some i
  | .error _ => none

/-! The encoder, from the same table. -/

/-- Place OP, UNIT and VAL in a command word, every ignored bit 0 (R76, R81: `v << 8 | t << 4 | op`). -/
def commandWord (op : BitVec 4) (unit : UnitIx) (val : Raw) : CmdWord :=
  val.setWidth 32 <<< 8 ||| unit.setWidth 32 <<< 4 ||| op.setWidth 32

/-- The command word of an operation, its ignored bits 0 (R81). -/
def encodeWord : Instr → CmdWord
  | .nop => commandWord 0 0 0
  | .pushByte b => commandWord 1 0 (b.setWidth 11)
  | .idleGap => commandWord 2 0 0
  | .decode => commandWord 3 0 0
  | .encode => commandWord 4 0 0
  | .trackAdd t v => commandWord 5 t v
  | .classifyTri u v => commandWord 6 u v
  | .classifyBin u v => commandWord 7 u v
  | .reserved op => commandWord op 0 0

/-! The opcode table (spec/opcode_table.json). -/

/-- One row: a word belongs to it when `word &&& mask = pattern`. -/
structure OpcodeRow where
  mnemonic : String
  mask : CmdWord
  pattern : CmdWord
deriving DecidableEq, Repr

/-- The nine rows, in the table's order. -/
def opcodeTable : List OpcodeRow :=
  [ ⟨"NOP", 0xF, 0x0⟩, ⟨"PUSH_BYTE", 0xF, 0x1⟩, ⟨"IDLE_GAP", 0xF, 0x2⟩, ⟨"DECODE", 0xF, 0x3⟩, ⟨"ENCODE", 0xF, 0x4⟩,
    ⟨"TRACK_ADD", 0xF, 0x5⟩, ⟨"CLASSIFY_TRI", 0xF, 0x6⟩, ⟨"CLASSIFY_BIN", 0xF, 0x7⟩, ⟨"RESERVED", 0x8, 0x8⟩ ]

/-- The row of the opcode table an operation belongs to, by its mnemonic. -/
def Instr.mnemonic : Instr → String
  | .nop => "NOP"
  | .pushByte _ => "PUSH_BYTE"
  | .idleGap => "IDLE_GAP"
  | .decode => "DECODE"
  | .encode => "ENCODE"
  | .trackAdd _ _ => "TRACK_ADD"
  | .classifyTri _ _ => "CLASSIFY_TRI"
  | .classifyBin _ _ => "CLASSIFY_BIN"
  | .reserved _ => "RESERVED"

/-- The op code of an operation (R76). -/
def Instr.opcode : Instr → BitVec 4
  | .nop => 0x0
  | .pushByte _ => 0x1
  | .idleGap => 0x2
  | .decode => 0x3
  | .encode => 0x4
  | .trackAdd _ _ => 0x5
  | .classifyTri _ _ => 0x6
  | .classifyBin _ _ => 0x7
  | .reserved op => op

end Sys2Proof
end

