-- ==== Sys2Proof/Config.lean ====
section
/-! DEFINITION. The implementation parameters of spec/00_scope.md R7, fixed at build time. A machine carries its
configuration as data that no operation writes (`State.cfg`), so that every statement holds for every value of the
parameters the spec leaves OPEN. Which configurations are legal is `Config.ok` (Machine/Params.lean). -/

namespace Sys2Proof

/-- The thresholds of one tri-state classifier, exact rationals (R7, R12). The defaults are R7's. -/
structure TriThresholds where
  upEnter : Rat := mkRat 9 20
  downEnter : Rat := mkRat (-11) 20
  upExit : Rat := mkRat 3 20
  downExit : Rat := mkRat (-3) 20
deriving DecidableEq, Repr

/-- The thresholds of one binary classifier, exact rationals (R7, R12). The defaults are R7's. -/
structure BinThresholds where
  btnEnter : Rat := mkRat 1 5
  btnExit : Rat := mkRat (-1) 5
deriving DecidableEq, Repr

/-- The parameters of R7 that are not fixed numbers. NS and NB are the lengths of `tri` and `bin`, which hold one
threshold set per classifier (D29). N, the levels and the thresholds default to R7's defaults; K, NT, NS and NB are
OPEN in the spec (D22, D30) and have no default here. -/
structure Config where
  /-- N, the tracker window size. -/
  n : Nat := 10
  /-- NT, the number of trackers. -/
  nt : Nat
  /-- K, the debounce count. -/
  k : Nat
  activeLevel : Nat := 1811
  releasedLevel : Nat := 174
  /-- One threshold set for each of the NS tri-state classifiers. -/
  tri : List TriThresholds
  /-- One threshold set for each of the NB binary classifiers. -/
  bin : List BinThresholds
deriving DecidableEq, Repr

/-- NS, the number of tri-state classifiers (R7). -/
abbrev Config.ns (c : Config) : Nat := c.tri.length

/-- NB, the number of binary classifiers (R7). -/
abbrev Config.nb (c : Config) : Nat := c.bin.length

/-- The configuration of `State.reset`: R7's defaults, and for the OPEN parameters the values that
spec/95_test_vectors.md section 3 uses for all its programs, K = 3, NT = 2, NS = 2, NB = 1.
DESIGN CHOICE (unsafe), assumption log 1. -/
def Config.initial : Config :=
  { nt := 2, k := 3, tri := [{}, {}], bin := [{}] }

end Sys2Proof
end

