-- ==== Sys2Proof/Machine/Params.lean ====
section
/-! DEFINITION. The fixed numbers of spec/00_scope.md R7, the derived parameters, and the check a configuration has to
pass (R7, spec/43_classifier.md R190). -/

namespace Sys2Proof.Machine

/-- START_MARK, byte 0 of a frame (R7, R70). -/
def startMark : Byte := 0x0F

/-- END_MARK, byte 24 of a frame (R7, R70). -/
def endMark : Byte := 0x00

/-- CLAMP_LO (R7). -/
def clampLo : Nat := 174

/-- CLAMP_HI (R7). -/
def clampHi : Nat := 1800

/-- CENTER (R7). -/
def center : Nat := 992

/-- HALF_UP = CLAMP_HI − CENTER (R7). -/
def halfUp : Nat := 808

/-- HALF_DN = CENTER − CLAMP_LO (R7). -/
def halfDn : Nat := 818

/-- The number of binary digits of `n`, 0 for 0. -/
def bitLength (n : Nat) : Nat := if n = 0 then 0 else Nat.log2 n + 1

end Sys2Proof.Machine

namespace Sys2Proof

open Sys2Proof.Machine

/-- MAJ_THRESH = ⌊N/2⌋·ACTIVE_LEVEL + ⌈N/2⌉·RELEASED_LEVEL (R7, R163; 90_conflicts C1). -/
def Config.majThresh (c : Config) : Nat := c.n / 2 * c.activeLevel + (c.n + 1) / 2 * c.releasedLevel

/-- SUM_W, the bit length of N·2047 (R7, R162). -/
def Config.sumW (c : Config) : Nat := bitLength (c.n * 2047)

/-- CNT_W, the bit length of K (R7). -/
def Config.cntW (c : Config) : Nat := bitLength c.k

/-- The width of TRK_WP: the bit length of N−1, at least 1 (R20). -/
def Config.wpW (c : Config) : Nat := max 1 (bitLength (c.n - 1))

/-- The order that R7 and R190 ask of a tri-state threshold set. -/
def TriThresholds.ok (t : TriThresholds) : Bool :=
  decide (t.downEnter < t.upEnter) && decide (t.upExit < t.upEnter) && decide (t.downEnter < t.downExit)

/-- The order that R7 and R190 ask of a binary threshold set. -/
def BinThresholds.ok (t : BinThresholds) : Bool := decide (t.btnExit < t.btnEnter)

/-- The constraints of R7 and R190. A configuration that breaks one is refused. -/
def Config.ok (c : Config) : Bool :=
  decide (1 ≤ c.n) && decide (c.n ≤ 1024) && decide (1 ≤ c.nt) && decide (c.nt ≤ 16) && decide (c.ns ≤ 16)
    && decide (c.nb ≤ 16) && decide (1 ≤ c.k) && decide (c.k ≤ 255) && decide (c.releasedLevel < c.activeLevel)
    && decide (c.activeLevel ≤ 2047) && c.tri.all TriThresholds.ok && c.bin.all BinThresholds.ok

end Sys2Proof
end

