-- ==== Sys2Proof/Machine/Units.lean ====
section
/-! DEFINITION. The parts State is made of: the names behind the coded registers of spec/10_state.md, the ChannelSet,
one tracker, one classifier of each kind, the event outputs and one cycle of the input ports; and each part's reset
value (R20). The numeric codes are in Machine/Flags.lean. -/

namespace Sys2Proof.Machine

/-- Twenty-five bytes, byte 0 first on the wire (R50, R70). -/
abbrev Frame := Vector Byte 25

/-- The reset value of STAGE, FRAME and TX_FRAME: 25 bytes of 0x00 (R23, R24, R32). -/
def Frame.zero : Frame := Vector.replicate 25 0x00

/-- A frame is marker-valid iff its first byte is 0x0F and its last byte is 0x00 (R70). -/
abbrev Frame.markerValid (f : Frame) : Prop := f[0] = startMark ∧ f[24] = endMark

/-- The 2-bit ChannelSet status (R31, R74). -/
inductive Status where
  | ok
  | lost
  | failsafe
  /-- Code 3: never produced by DECODE; on the `enc_st` port it encodes as FAILSAFE (R74, R133). -/
  | reserved3
deriving DecidableEq, Repr

/-- A ChannelSet value (spec/41_codec.md, before R130): CS_CH, CS_D17, CS_D18 and CS_STATUS, or the operand on the
`enc_*` ports (R80). `ch[k]` is CH(k+1) (R11). -/
structure ChannelSet where
  ch : Vector Raw 16
  d17 : Bool
  d18 : Bool
  status : Status
deriving DecidableEq, Repr

/-- The ChannelSet at reset: all channels 0, both digital channels 0, FAILSAFE (R29, R30, R31). -/
def ChannelSet.reset : ChannelSet :=
  { ch := Vector.replicate 16 0, d17 := false, d18 := false, status := .failsafe }

/-- The cause of a desync event, and the value of LAST_CAUSE (R27, R220). -/
inductive Cause where
  /-- NONE: no desync since reset. -/
  | noDesync
  | badEnd
  | overrun
  | gap
deriving DecidableEq, Repr

/-- The event an operation signals; at most one an operation (R226, R227). -/
inductive Event where
  | commit
  | desync (c : Cause)
  | live
  | encoded
  | badCmd
deriving DecidableEq, Repr

/-- The mode of a tri-state classifier (R35). Code 3 is never written, so it is no value here. -/
inductive TriMode where
  | down
  | mid
  | up
deriving DecidableEq, Repr

/-- The mode of a binary classifier (R36). -/
inductive BinMode where
  | off
  | on
deriving DecidableEq, Repr

/-- One tracker: TRK_WIN[t] and TRK_WP[t] (R33, R34). -/
structure Tracker where
  win : List Raw
  wp : Nat
deriving DecidableEq, Repr

/-- A tracker at reset: every slot RELEASED_LEVEL, write pointer 0 (R33, R34; 90_conflicts C2). -/
def Tracker.reset (c : Config) : Tracker :=
  { win := List.replicate c.n (BitVec.ofNat 11 c.releasedLevel), wp := 0 }

/-- One tri-state classifier: TRI_MODE[s], TRI_PEND[s], TRI_CONF[s], TRI_EXIT[s] (R35). -/
structure TriUnit where
  mode : TriMode
  pend : TriMode
  conf : Nat
  exit : Nat
deriving DecidableEq, Repr

/-- A tri-state classifier at reset: MID, pending MID, both counters 0 (R35). -/
def TriUnit.reset : TriUnit := { mode := .mid, pend := .mid, conf := 0, exit := 0 }

/-- One binary classifier: BIN_MODE[b], BIN_CONF[b], BIN_EXIT[b] (R36). -/
structure BinUnit where
  mode : BinMode
  conf : Nat
  exit : Nat
deriving DecidableEq, Repr

/-- A binary classifier at reset: OFF, both counters 0 (R36). -/
def BinUnit.reset : BinUnit := { mode := .off, conf := 0, exit := 0 }

/-- What the integrator drives on the input ports in one cycle (R75); `enc` is the bundle `enc_ch`, `enc_d17`,
`enc_d18`, `enc_st`. -/
structure PortCycle where
  rst : Bool
  cmdValid : Bool
  cmd : CmdWord
  enc : ChannelSet
deriving DecidableEq, Repr

/-- A cycle in which the integrator issues nothing: `rst = 0`, `cmd_valid = 0`. The other ports are then read by no rule
(R78, R257); they stand at 0. DESIGN CHOICE, assumption log 2. -/
def PortCycle.idle : PortCycle :=
  { rst := false, cmdValid := false, cmd := 0
    enc := { ch := Vector.replicate 16 0, d17 := false, d18 := false, status := .ok } }

end Sys2Proof.Machine
end

