-- ==== Sys2Proof/Machine/State.lean ====
section
/-! DEFINITION. The state of SBUS-FSV (spec/10_state.md R20), its reset (spec/70_reset_and_hazards.md R250), and the
ways a step can stop. -/

namespace Sys2Proof.Machine

/-- Every register of R20, the event of the last operation (R227), and two fields of the model's own: the build-time
configuration (R39; assumption log 1) and the port values the integrator drives (R75; assumption log 2). -/
@[ext]
structure State where
  /-- The build-time parameters (R7). No operation writes them. -/
  cfg : Config
  /-- ASM_CNT: 0 is the hunt phase, 1..24 the collect phase (R22). -/
  asmCnt : Fin 25
  /-- STAGE[0..24] (R23). -/
  stage : Frame
  /-- FRAME[0..24] (R24). -/
  frame : Frame
  /-- FRAME_READY (R25). -/
  frameReady : Bool
  /-- DESYNC_COUNT (R26). -/
  desyncCount : BitVec 16
  /-- LAST_CAUSE (R27). -/
  lastCause : Cause
  /-- BAD_CMD (R28). -/
  badCmd : Bool
  /-- CS_CH, CS_D17, CS_D18, CS_STATUS (R29, R30, R31). -/
  cs : ChannelSet
  /-- TX_FRAME[0..24] (R32). -/
  txFrame : Frame
  /-- TRK_WIN[t], TRK_WP[t] for t < NT (R33, R34). -/
  trk : List Tracker
  /-- TRI_MODE[s], TRI_PEND[s], TRI_CONF[s], TRI_EXIT[s] for s < NS (R35). -/
  tri : List TriUnit
  /-- BIN_MODE[b], BIN_CONF[b], BIN_EXIT[b] for b < NB (R36). -/
  bin : List BinUnit
  /-- The event of the last cycle's operation, shown on `evt_o` (R227). -/
  evt : Option Event
  /-- The model's own: the port values of this cycle (first) and of the cycles after it; when the list ends, every
  further cycle is idle. -/
  port : List PortCycle
deriving DecidableEq, Repr

/-- The faults a step can stop with: none. "every fault resolves by waiting for better input or by holding a safe
output state" (spec/60_exceptions.md, before R220); the error events of R220 and R224 are recorded and the block goes
on. -/
inductive Fault where
deriving DecidableEq, Repr

/-- What the model does not run. -/
inductive Refusal where
  /-- Raised by no arm of `exec`: every operation of the table has its meaning. Safe. -/
  | notModelled (mnemonic : String)
  /-- Raised by `step` when the machine's configuration breaks a constraint of R7 or R190: "A model refuses a
  configuration that breaks a stated constraint." Safe. -/
  | badConfig
deriving DecidableEq, Repr

/-- The state after reset of a block built with the parameters `c`: every register at its value of R20 (R250, R251),
no event signalled, nothing driven on the ports. -/
def State.resetWith (c : Config) : State :=
  { cfg := c
    asmCnt := 0
    stage := Frame.zero
    frame := Frame.zero
    frameReady := false
    desyncCount := 0
    lastCause := .noDesync
    badCmd := false
    cs := ChannelSet.reset
    txFrame := Frame.zero
    trk := List.replicate c.nt (Tracker.reset c)
    tri := List.replicate c.ns TriUnit.reset
    bin := List.replicate c.nb BinUnit.reset
    evt := none
    port := [] }

/-- The machine right after reset, with the parameters of `Config.initial`. -/
def State.reset : State := State.resetWith Config.initial

end Sys2Proof.Machine
end

