-- ==== Sys2Proof/Machine/Flags.lean ====
section
/-! DEFINITION. The numeric codes of the coded registers, the flag byte of a frame (spec/30_encoding.md R73), the
STATUS word (spec/10_state.md R37) and the event bits (spec/60_exceptions.md R227). -/

namespace Sys2Proof.Machine

/-- A 1-bit register as a bit. -/
def bit (b : Bool) : BitVec 1 := BitVec.ofBool b

/-- OK = 0, LOST = 1, FAILSAFE = 2, 3 reserved (R74). -/
def Status.code : Status → BitVec 2
  | .ok => 0
  | .lost => 1
  | .failsafe => 2
  | .reserved3 => 3

/-- NONE = 0, BAD_END = 1, OVERRUN = 2, GAP = 3 (R220). -/
def Cause.code : Cause → BitVec 2
  | .noDesync => 0
  | .badEnd => 1
  | .overrun => 2
  | .gap => 3

/-- DOWN = 0, MID = 1, UP = 2 (R35, R191). -/
def TriMode.code : TriMode → BitVec 2
  | .down => 0
  | .mid => 1
  | .up => 2

/-- OFF = 0, ON = 1 (R36). -/
def BinMode.code : BinMode → BitVec 1
  | .off => 0
  | .on => 1

/-- The bits of `evt_o` an event sets (R227). -/
def Event.bits : Event → BitVec 7
  | .commit => 0b0000001
  | .desync c => 0b0000010 ||| c.code.setWidth 7 <<< 2
  | .live => 0b0010000
  | .encoded => 0b0100000
  | .badCmd => 0b1000000

/-- The status a flag byte gives: bit 3 decides first, then bit 2 (R130, R132). -/
def statusOfFlags (b : Byte) : Status :=
  if b.getLsbD 3 then .failsafe else if b.getLsbD 2 then .lost else .ok

/-- The LOST flag bit ENCODE writes: 1 iff the status is LOST, FAILSAFE or code 3 (R73, R133). -/
def Status.lostBit : Status → Bool
  | .ok => false
  | .lost => true
  | .failsafe => true
  | .reserved3 => true

/-- The FS flag bit ENCODE writes: 1 iff the status is FAILSAFE or code 3 (R73, R133). -/
def Status.fsBit : Status → Bool
  | .ok => false
  | .lost => false
  | .failsafe => true
  | .reserved3 => true

/-- The flag byte of an encoded frame; the reserved bits 7:4 are 0 (R73, R133). -/
def flagByte (c : ChannelSet) : Byte :=
  (bit c.d17).setWidth 8 ||| (bit c.d18).setWidth 8 <<< 1 ||| (bit c.status.lostBit).setWidth 8 <<< 2
    ||| (bit c.status.fsBit).setWidth 8 <<< 3

/-- STATUS[15:0], most significant field first: reserved, BADCMD, CNT, CSST, CAUSE, SYNC, READY (R37). -/
def State.status (s : State) : BitVec 16 :=
  0#4 ++ bit s.badCmd ++ BitVec.ofNat 5 s.asmCnt.val ++ s.cs.status.code ++ s.lastCause.code
    ++ bit (decide (s.asmCnt ≠ 0)) ++ bit s.frameReady

/-- `evt_o[6:0]` (R227). -/
def State.evtBits (s : State) : BitVec 7 :=
  match s.evt with
  | none => 0
  | some e => e.bits

end Sys2Proof.Machine
end

