-- ==== Sys2Proof/Machine/Ops.lean ====
section
/-! DEFINITION. The shared operations over the registers: the pseudocode primitives of spec/00_scope.md R10 (`signal`,
`raise Desync`, `raise BadCmd`), the stage and frame writes, and the updates of one unit. The block has no memory
(spec/20_memory.md R55) and no trap entry or return (spec/60_exceptions.md R225): the two `raise` operations are the
whole of its exception handling. -/

namespace Sys2Proof.Machine

/-- `signal E` (R10, R227). -/
def State.signal (e : Event) (s : State) : State := { s with evt := some e }

/-- `sat16(x + 1)`, with sat16(x) = min(x, 0xFFFF) (R221). -/
def satIncr (x : BitVec 16) : BitVec 16 := BitVec.ofNat 16 (min (x.toNat + 1) 0xFFFF)

/-- `raise Desync(cause)`: count it, record the cause, signal DESYNC, and nothing else (R222). -/
def State.raiseDesync (c : Cause) (s : State) : State :=
  { s with desyncCount := satIncr s.desyncCount, lastCause := c }.signal (.desync c)

/-- `raise BadCmd`: set the sticky bit, signal BADCMD, and nothing else (R224). -/
def State.raiseBadCmd (s : State) : State := { s with badCmd := true }.signal .badCmd

/-- `STAGE[i] <- b` and `ASM_CNT <- n` (R100). -/
def State.stagePut (i : Fin 25) (b : Byte) (n : Fin 25) (s : State) : State :=
  { s with stage := s.stage.set i.val b, asmCnt := n }

/-- Commit the collected window with last byte `b`: FRAME[0..23] from STAGE[0..23], FRAME[24] = `b`, FRAME_READY = 1,
signal COMMIT (R100, R102). -/
def State.commitFrame (b : Byte) (s : State) : State :=
  { s with frame := s.stage.set 24 b, frameReady := true }.signal .commit

/-- Rewrite tracker `t` (R161). -/
def State.updateTracker (t : Nat) (f : Tracker → Tracker) (s : State) : State := { s with trk := s.trk.modify t f }

/-- Rewrite tri-state classifier `u` (R184). -/
def State.updateTri (u : Nat) (f : TriUnit → TriUnit) (s : State) : State := { s with tri := s.tri.modify u f }

/-- Rewrite binary classifier `u` (R186). -/
def State.updateBin (u : Nat) (f : BinUnit → BinUnit) (s : State) : State := { s with bin := s.bin.modify u f }

end Sys2Proof.Machine
end

