-- ==== Sys2Proof/Machine/Port.lean ====
section
/-! DEFINITION. The command port and one cycle around an operation (spec/30_encoding.md R75, R78;
spec/60_exceptions.md R227, R229; spec/70_reset_and_hazards.md R250, R253). -/

namespace Sys2Proof.Machine

/-- What the integrator drives in this cycle. -/
def State.pins (s : State) : PortCycle := s.port.headD PortCycle.idle

/-- The operation accepted in this cycle; none when `cmd_valid` is 0 (R75, R78). -/
def State.accepted (s : State) : Option Instr :=
  if s.pins.cmdValid then some (decodeWord s.pins.cmd) else none

/-- Before the operation of a cycle, no event is signalled yet: `evt_o` shows an event for one cycle only (R227). -/
def State.beginCycle (s : State) : State := { s with evt := none }

/-- The clock edge passes on to the next cycle's port values. -/
def State.endCycle (s : State) : State := { s with port := s.port.tail }

/-- A cycle with `rst = 1`: every register takes its reset value, the command is discarded, no event is signalled
(R250, R229). -/
def State.resetCycle (s : State) : State := { State.resetWith s.cfg with port := s.port.tail }

/-- One cycle, with `run` for what an operation does: a bad configuration is refused (R7); reset wins over a command
(R229); no command is no operation (R78); a command is decoded and run, and its event shows from the next cycle
(R227, R253). -/
def runCycle (run : Instr → State → Host.Outcome State Fault Refusal) (s : State) :
    Host.Outcome State Fault Refusal :=
  if s.cfg.ok then
    if s.pins.rst then .next s.resetCycle
    else
      match s.accepted with
      | none => .next s.beginCycle.endCycle
      | some i =>
        match run i s.beginCycle with
        | .next t => .next t.endCycle
        | .fault f => .fault f
        | .refused r => .refused r
  else .refused .badConfig

/-- The port values with command word `w` issued in this cycle, the `enc_*` ports as they stand and the later cycles
unchanged. -/
def State.withCommand (s : State) (w : CmdWord) : State :=
  { s with port := { rst := false, cmdValid := true, cmd := w, enc := s.pins.enc } :: s.port.tail }

end Sys2Proof.Machine
end

