-- ==== Sys2Proof/Machine/Operands.lean ====
section
/-! DEFINITION. The operand forms: a unit index, a raw value and its normalized value (spec/30_encoding.md R77,
spec/43_classifier.md R180), and the ChannelSet on the `enc_*` ports (R80). BYTE is the byte itself. -/

namespace Sys2Proof.Machine

/-- `clamp(v, lo, hi) = min(max(v, lo), hi)` (R10). -/
def clamp (v lo hi : Nat) : Nat := min (max v lo) hi

/-- The normalized value of a raw value, an exact rational in [−1, 1] (R180): `mkRat a b` is a/b. -/
def normVal (v : Raw) : Rat :=
  let c := clamp v.toNat clampLo clampHi
  if c > center then mkRat ((c : Int) - center) halfUp
  else if c < center then mkRat ((c : Int) - center) halfDn
  else 0

/-- UNIT as a number, zero-extended (R77). -/
def unitOf (u : UnitIx) : Nat := u.toNat

/-- The ENCODE operand: what stands on the `enc_*` ports in this cycle (R80, R257). -/
def State.encOperand (s : State) : ChannelSet := s.pins.enc

end Sys2Proof.Machine
end

