-- ==== Sys2Proof/Machine/BadCommand.lean ====
section
/-! DEFINITION. The reserved op codes 0x8..0xF (spec/30_encoding.md R78, spec/60_exceptions.md R224). -/

namespace Sys2Proof.Machine

/-- A reserved op code: raise BadCmd, and nothing else (R78, R224). -/
def execReserved (s : State) : Host.Outcome State Fault Refusal := .next s.raiseBadCmd

end Sys2Proof.Machine
end

