-- ==== Sys2Proof/Machine/Classifier.lean ====
section
/-! DEFINITION. The switch classifiers: CLASSIFY_TRI and CLASSIFY_BIN (spec/43_classifier.md). Every threshold test is
strict and exact over the rationals (R12, R180). -/

namespace Sys2Proof.Machine

/-- The candidate a sample yields in MID, tested in the order UP, DOWN, MID (R183, R184). -/
def triCandidate (th : TriThresholds) (x : Rat) : TriMode :=
  if x > th.upEnter then .up else if x < th.downEnter then .down else .mid

/-- A sample in MID: count the candidate, commit it on the K-th (R183, R184; 90_conflicts C6, C7). -/
def TriUnit.inMid (k : Nat) (cand : TriMode) (u : TriUnit) : TriUnit :=
  if cand = .mid then { u with pend := .mid, conf := 0 }
  else
    let c := if cand = u.pend then u.conf + 1 else 1
    if c = k then { mode := cand, pend := .mid, conf := 0, exit := 0 }
    else { u with pend := cand, conf := c }

/-- A sample in UP or DOWN: count a qualifying one, return to MID on the K-th, reset on any other (R183, R184). -/
def TriUnit.leave (k : Nat) (qualifies : Bool) (u : TriUnit) : TriUnit :=
  if qualifies then
    if u.exit + 1 = k then { u with mode := .mid, exit := 0 } else { u with exit := u.exit + 1 }
  else { u with exit := 0 }

/-- One sample with normalized value `x` (R184). -/
def TriUnit.sample (k : Nat) (th : TriThresholds) (x : Rat) (u : TriUnit) : TriUnit :=
  match u.mode with
  | .mid => u.inMid k (triCandidate th x)
  | .up => u.leave k (decide (x < th.upExit))
  | .down => u.leave k (decide (x > th.downExit))

/-- One sample with normalized value `x` (R186). -/
def BinUnit.sample (k : Nat) (th : BinThresholds) (x : Rat) (u : BinUnit) : BinUnit :=
  match u.mode with
  | .off =>
    if x > th.btnEnter then
      if u.conf + 1 = k then { u with mode := .on, conf := 0 } else { u with conf := u.conf + 1 }
    else { u with conf := 0 }
  | .on =>
    if x < th.btnExit then
      if u.exit + 1 = k then { u with mode := .off, exit := 0 } else { u with exit := u.exit + 1 }
    else { u with exit := 0 }

/-- CLASSIFY_TRI (R184). -/
def execClassifyTri (u : UnitIx) (v : Raw) (s : State) : Host.Outcome State Fault Refusal :=
  if h : unitOf u < s.cfg.ns then
    .next (s.updateTri (unitOf u) (TriUnit.sample s.cfg.k s.cfg.tri[unitOf u] (normVal v)))
  else .next s.raiseBadCmd

/-- CLASSIFY_BIN (R186). -/
def execClassifyBin (u : UnitIx) (v : Raw) (s : State) : Host.Outcome State Fault Refusal :=
  if h : unitOf u < s.cfg.nb then
    .next (s.updateBin (unitOf u) (BinUnit.sample s.cfg.k s.cfg.bin[unitOf u] (normVal v)))
  else .next s.raiseBadCmd

end Sys2Proof.Machine
end

