-- ==== Sys2Proof/Machine/Codec.lean ====
section
/-! DEFINITION. The channel codec: the functions `decode` and `encode` of a frame and the operations DECODE and ENCODE
(spec/41_codec.md; spec/30_encoding.md R70 to R74). -/

namespace Sys2Proof.Machine

/-- `w`-bit fields one after another, the first in the least significant place: Σ f[k]·2^(w·k) (R51, R71). -/
def packFields (w : Nat) : List (BitVec w) → Nat
  | [] => 0
  | f :: fs => f.toNat + 2 ^ w * packFields w fs

/-- Field `k` of width `w`: `P[w·k + w − 1 : w·k]` (R71). -/
def fieldAt (w P k : Nat) : BitVec w := BitVec.ofNat w (P >>> (w * k))

/-- P = Σ_{m=0..21} B[1+m]·2^(8m), the 176-bit payload (R51, R130). -/
def payload (f : Frame) : Nat := packFields 8 ((f.toList.drop 1).take 22)

/-- `decode(B)` (R130). -/
def decodeFrame (f : Frame) : ChannelSet :=
  let P := payload f
  { ch := Vector.ofFn fun k : Fin 16 => fieldAt 11 P k.val
    d17 := f[23].getLsbD 0
    d18 := f[23].getLsbD 1
    status := statusOfFlags f[23] }

/-- `encode(C)` (R133). -/
def encodeFrame (c : ChannelSet) : Frame :=
  let P := packFields 11 c.ch.toList
  Vector.ofFn fun i : Fin 25 =>
    if i.val = 0 then startMark
    else if i.val ≤ 22 then fieldAt 8 P (i.val - 1)
    else if i.val = 23 then flagByte c
    else endMark

/-- DECODE: consume the ready frame into the ChannelSet and signal LIVE; with no ready frame nothing changes (R134). -/
def execDecode (s : State) : Host.Outcome State Fault Refusal :=
  if s.frameReady then .next ({ s with cs := decodeFrame s.frame, frameReady := false }.signal .live) else .next s

/-- ENCODE: pack the operand on the `enc_*` ports into TX_FRAME and signal ENCODED (R135). -/
def execEncode (s : State) : Host.Outcome State Fault Refusal :=
  .next ({ s with txFrame := encodeFrame s.encOperand }.signal .encoded)

end Sys2Proof.Machine
end

