-- ==== Sys2Proof/Machine/FrameSync.lean ====
section
/-! DEFINITION. The frame synchronizer: NOP, PUSH_BYTE and IDLE_GAP (spec/40_frame_sync.md). -/

namespace Sys2Proof.Machine

/-- NOP: nothing changes; no event (R105). -/
def execNop (s : State) : Host.Outcome State Fault Refusal := .next s

/-- PUSH_BYTE in the hunt phase: only the start marker begins a frame (R100, R101). -/
def State.huntByte (b : Byte) (s : State) : State :=
  if b = startMark then s.stagePut 0 b 1 else s

/-- PUSH_BYTE of byte 24: back to hunt in every case; a bad end marker is tested before an overrun (R100, R102, R103,
R226). -/
def State.lastByte (b : Byte) (s : State) : State :=
  let s' := s.stagePut 24 b 0
  if b ≠ endMark then s'.raiseDesync .badEnd
  else if s.frameReady then s'.raiseDesync .overrun
  else s'.commitFrame b

/-- PUSH_BYTE (R100). -/
def execPushByte (b : Byte) (s : State) : Host.Outcome State Fault Refusal :=
  if s.asmCnt = 0 then .next (s.huntByte b)
  else if h : s.asmCnt.val ≤ 23 then .next (s.stagePut s.asmCnt b ⟨s.asmCnt.val + 1, by omega⟩)
  else .next (s.lastByte b)

/-- IDLE_GAP: a partial frame is discarded with Desync(GAP); in hunt nothing changes (R104). -/
def execIdleGap (s : State) : Host.Outcome State Fault Refusal :=
  if s.asmCnt ≠ 0 then .next ({ s with asmCnt := 0 }.raiseDesync .gap) else .next s

end Sys2Proof.Machine
end

