-- ==== Sys2Proof/Machine/Tracker.lean ====
section
/-! DEFINITION. The majority-vote tracker: TRACK_ADD, TRK_SUM and TRK_MAJ (spec/42_tracker.md). -/

namespace Sys2Proof.Machine

/-- Overwrite the oldest slot and move the write pointer on, modulo N (R161). -/
def Tracker.add (n : Nat) (v : Raw) (tr : Tracker) : Tracker :=
  { win := tr.win.set tr.wp v, wp := (tr.wp + 1) % n }

/-- TRK_SUM: the exact sum of the window (R162). -/
def Tracker.sum (tr : Tracker) : Nat := (tr.win.map BitVec.toNat).sum

/-- TRK_MAJ: 1 iff TRK_SUM > MAJ_THRESH (R163). -/
def Tracker.maj (c : Config) (tr : Tracker) : Bool := decide (tr.sum > c.majThresh)

/-- TRACK_ADD (R161). -/
def execTrackAdd (t : UnitIx) (v : Raw) (s : State) : Host.Outcome State Fault Refusal :=
  if unitOf t ≥ s.cfg.nt then .next s.raiseBadCmd
  else .next (s.updateTracker (unitOf t) (Tracker.add s.cfg.n v))

end Sys2Proof.Machine
end

