-- ==== Sys2Proof/Machine/Dispatch.lean ====
section
/-! DEFINITION. What each operation does, one arm per constructor of `Instr`. -/

namespace Sys2Proof.Machine

/-- The effect of one operation (spec/30_encoding.md R76 names the rule of each). -/
def exec (i : Instr) (s : State) : Host.Outcome State Fault Refusal :=
  match i with
  | .nop => Sys2Proof.Machine.execNop s
  | .pushByte b => Sys2Proof.Machine.execPushByte b s
  | .idleGap => Sys2Proof.Machine.execIdleGap s
  | .decode => Sys2Proof.Machine.execDecode s
  | .encode => Sys2Proof.Machine.execEncode s
  | .trackAdd t v => Sys2Proof.Machine.execTrackAdd t v s
  | .classifyTri u v => Sys2Proof.Machine.execClassifyTri u v s
  | .classifyBin u v => Sys2Proof.Machine.execClassifyBin u v s
  | .reserved _ => Sys2Proof.Machine.execReserved s

end Sys2Proof.Machine
end

