-- ==== Sys2Proof/Machine/Step.lean ====
section
/-! DEFINITION. One step of the machine: one clock cycle (Machine/Port.lean). -/

namespace Sys2Proof.Machine

/-- One cycle of the block. -/
def step (s : State) : Host.Outcome State Fault Refusal := runCycle exec s

/-- The state whose next cycle accepts the command word with bits `w`, those above `nbits` 0. -/
def State.withFetchWord (s : State) (nbits w : Nat) : State := s.withCommand (BitVec.ofNat 32 (w % 2 ^ nbits))

end Sys2Proof.Machine
end

