-- ==== Sys2Proof/Machine/Outputs.lean ====
section
/-! DEFINITION. The output ports (spec/30_encoding.md R75): functions of one state, read without side effect
(spec/20_memory.md R59, spec/70_reset_and_hazards.md R258). -/

namespace Sys2Proof.Machine

/-- The values on the output ports in one cycle. `trkSum` lists numbers that SUM_W bits hold (R162). -/
structure Outputs where
  frame : Frame
  frameReady : BitVec 1
  csCh : Vector Raw 16
  csD17 : BitVec 1
  csD18 : BitVec 1
  csStatus : BitVec 2
  txFrame : Frame
  trkSum : List Nat
  trkMaj : List (BitVec 1)
  triMode : List (BitVec 2)
  binMode : List (BitVec 1)
  status : BitVec 16
  desyncCount : BitVec 16
  evt : BitVec 7
deriving DecidableEq, Repr

/-- Every `*_o` port of R75. -/
def State.outputs (s : State) : Outputs :=
  { frame := s.frame
    frameReady := bit s.frameReady
    csCh := s.cs.ch
    csD17 := bit s.cs.d17
    csD18 := bit s.cs.d18
    csStatus := s.cs.status.code
    txFrame := s.txFrame
    trkSum := s.trk.map Tracker.sum
    trkMaj := s.trk.map fun tr => bit (tr.maj s.cfg)
    triMode := s.tri.map fun u => u.mode.code
    binMode := s.bin.map fun u => u.mode.code
    status := s.status
    desyncCount := s.desyncCount
    evt := s.evtBits }

end Sys2Proof.Machine
end

