-- ==== Sys2Proof/Machine/Text.lean ====
section
/-! DEFINITION. The operation text of spec/30_encoding.md R81: the operations with ENCODE's operand beside it, the
pseudo-operations and their expansion, the port values of one cycle, the written form and its reading. -/

namespace Sys2Proof.Machine

/-- One line of operation text (R81). -/
inductive OpText where
  | nop
  | push (b : Byte)
  | gap
  | decode
  | encode (c : ChannelSet)
  | tadd (t : UnitIx) (v : Raw)
  | tri (s : UnitIx) (v : Raw)
  | bin (b : UnitIx) (v : Raw)
deriving DecidableEq, Repr

/-- The operation a line stands for. -/
def OpText.instr : OpText → Instr
  | .nop => .nop
  | .push b => .pushByte b
  | .gap => .idleGap
  | .decode => .decode
  | .encode _ => .encode
  | .tadd t v => .trackAdd t v
  | .tri u v => .classifyTri u v
  | .bin u v => .classifyBin u v

/-- The values on the `enc_*` ports: an ENCODE line lists them; any other line leaves them at 0, and no rule then reads
them (R257). -/
def OpText.operand : OpText → ChannelSet
  | .encode c => c
  | _ => PortCycle.idle.enc

/-- The command word of a line. -/
def OpText.word (o : OpText) : CmdWord := encodeWord o.instr

/-- The port values that issue a line in one cycle. -/
def OpText.cycle (o : OpText) : PortCycle := { rst := false, cmdValid := true, cmd := o.word, enc := o.operand }

/-- A line of text or a pseudo-operation (R81). -/
inductive TextLine where
  | op (o : OpText)
  /-- `PUSHN b0, b1, .., bn`. -/
  | pushN (bs : List Byte)
  /-- `PUSHF C`: PUSHN of the 25 bytes of `encode(C)`. -/
  | pushF (c : ChannelSet)
  /-- `REP n: op`. -/
  | rep (n : Nat) (o : OpText)
deriving DecidableEq, Repr

/-- The operations a line expands to, in order (R81). -/
def TextLine.expand : TextLine → List OpText
  | .op o => [o]
  | .pushN bs => bs.map OpText.push
  | .pushF c => (encodeFrame c).toList.map OpText.push
  | .rep n o => List.replicate n o

/-- The operations of a text, in order. -/
def expandText (lines : List TextLine) : List OpText := lines.flatMap TextLine.expand

/-- Drive a text on the command port, one operation a cycle, before whatever is driven there already (R60). -/
def State.issue (ops : List OpText) (s : State) : State := { s with port := ops.map OpText.cycle ++ s.port }

/-- A bit of an operand as text. -/
def bitText (b : Bool) : String := if b then "1" else "0"

/-- A ChannelSet as text, numbers in decimal. The braces around it are characters 123 and 125. -/
def ChannelSet.render (c : ChannelSet) : String :=
  String.singleton (Char.ofNat 123) ++ "ch=["
    ++ String.intercalate "," (c.ch.toList.map fun v => toString v.toNat)
    ++ "], d17=" ++ bitText c.d17 ++ ", d18=" ++ bitText c.d18 ++ ", st=" ++ toString c.status.code.toNat
    ++ String.singleton (Char.ofNat 125)

/-- The written form of a line, numbers in decimal (R81). -/
def OpText.render : OpText → String
  | .nop => "NOP"
  | .push b => "PUSH " ++ toString b.toNat
  | .gap => "GAP"
  | .decode => "DECODE"
  | .encode c => "ENCODE " ++ c.render
  | .tadd t v => "TADD " ++ toString t.toNat ++ ", " ++ toString v.toNat
  | .tri u v => "TRI " ++ toString u.toNat ++ ", " ++ toString v.toNat
  | .bin u v => "BIN " ++ toString u.toNat ++ ", " ++ toString v.toNat

/-- The written form of a line or a pseudo-operation (R81). -/
def TextLine.render : TextLine → String
  | .op o => o.render
  | .pushN bs => "PUSHN " ++ String.intercalate ", " (bs.map fun b => toString b.toNat)
  | .pushF c => "PUSHF " ++ c.render
  | .rep n o => "REP " ++ toString n ++ ": " ++ o.render

/-! Reading the text of R81. A line that R81's table does not give is read as nothing. -/

/-- A piece of a line: a run of letters and digits, or one other character that is no space. -/
abbrev TextToken := List Char

/-- Cut a line into its pieces; `run` is the run being read, last character first. -/
def textTokens : List Char → List Char → List TextToken
  | [], run => if run = [] then [] else [run.reverse]
  | c :: cs, run =>
    if c.isAlphanum then textTokens cs (c :: run)
    else
      (if run = [] then [] else [run.reverse]) ++ (if c = ' ' then [] else [[c]]) ++ textTokens cs []

/-- The value of a hexadecimal digit. -/
def hexDigit (c : Char) : Option Nat :=
  if '0' ≤ c ∧ c ≤ '9' then some (c.toNat - 48)
  else if 'a' ≤ c ∧ c ≤ 'f' then some (c.toNat - 87)
  else if 'A' ≤ c ∧ c ≤ 'F' then some (c.toNat - 55)
  else none

/-- Read digits in a base, after the value read so far. -/
def digitsFrom (base : Nat) : List Char → Nat → Option Nat
  | [], acc => some acc
  | c :: cs, acc =>
    match hexDigit c with
    | some d => if d < base then digitsFrom base cs (base * acc + d) else none
    | none => none

/-- A number: decimal unless written `0x..` (R81). -/
def textNumber : TextToken → Option Nat
  | [] => none
  | ['0', 'x'] => none
  | '0' :: 'x' :: cs => digitsFrom 16 cs 0
  | cs => digitsFrom 10 cs 0

/-- A number that fits `w` bits. -/
def textBits (w : Nat) (t : TextToken) : Option (BitVec w) :=
  match textNumber t with
  | some n => if n < 2 ^ w then some (BitVec.ofNat w n) else none
  | none => none

/-- Numbers that fit `w` bits, with a comma between each two; at least one. -/
def textList (w : Nat) : List TextToken → Option (List (BitVec w))
  | [] => none
  | [t] => (textBits w t).map fun b => [b]
  | t :: c :: ts =>
    if c = [','] then
      match textBits w t, textList w ts with
      | some b, some bs => some (b :: bs)
      | _, _ => none
    else none

/-- A status by its code (R74). -/
def Status.ofCode (v : BitVec 2) : Status :=
  match v.toNat with
  | 0 => .ok
  | 1 => .lost
  | 2 => .failsafe
  | _ => .reserved3

/-- What stands after `ch=[..]`: `, d17=x, d18=y, st=z` and the closing brace. -/
def textFlags : List TextToken → Option (Bool × Bool × Status)
  | [[','], ['d', '1', '7'], ['='], x, [','], ['d', '1', '8'], ['='], y, [','], ['s', 't'], ['='], z, e] =>
    match textBits 1 x, textBits 1 y, textBits 2 z with
    | some x, some y, some z =>
      if e = [Char.ofNat 125] then some (x.getLsbD 0, y.getLsbD 0, Status.ofCode z) else none
    | _, _, _ => none
  | _ => none

/-- A ChannelSet in braces. -/
def textChannelSet : List TextToken → Option ChannelSet
  | b :: ['c', 'h'] :: ['='] :: ['['] :: ts =>
    if b = [Char.ofNat 123] then
      match textList 11 (ts.take 31), ts.drop 31 with
      | some vs, [']'] :: rest =>
        match textFlags rest with
        | some (x, y, st) =>
          if h : vs.length = 16 then some { ch := ⟨vs.toArray, by simpa using h⟩, d17 := x, d18 := y, status := st }
          else none
        | none => none
      | _, _ => none
    else none
  | _ => none

/-- One operation from its pieces (R81). -/
def OpText.ofTokens : List TextToken → Option OpText
  | [['N', 'O', 'P']] => some .nop
  | [['P', 'U', 'S', 'H'], b] => (textBits 8 b).map .push
  | [['G', 'A', 'P']] => some .gap
  | [['D', 'E', 'C', 'O', 'D', 'E']] => some .decode
  | ['E', 'N', 'C', 'O', 'D', 'E'] :: ts => (textChannelSet ts).map .encode
  | [['T', 'A', 'D', 'D'], u, [','], v] =>
    match textBits 4 u, textBits 11 v with
    | some u, some v => some (.tadd u v)
    | _, _ => none
  | [['T', 'R', 'I'], u, [','], v] =>
    match textBits 4 u, textBits 11 v with
    | some u, some v => some (.tri u v)
    | _, _ => none
  | [['B', 'I', 'N'], u, [','], v] =>
    match textBits 4 u, textBits 11 v with
    | some u, some v => some (.bin u v)
    | _, _ => none
  | _ => none

/-- One line or pseudo-operation from its pieces (R81). -/
def TextLine.ofTokens : List TextToken → Option TextLine
  | ['P', 'U', 'S', 'H', 'N'] :: ts => (textList 8 ts).map .pushN
  | ['P', 'U', 'S', 'H', 'F'] :: ts => (textChannelSet ts).map .pushF
  | ['R', 'E', 'P'] :: n :: [':'] :: ts =>
    match textNumber n, OpText.ofTokens ts with
    | some n, some o => some (.rep n o)
    | _, _ => none
  | ts => (OpText.ofTokens ts).map .op

/-- Read one line of operation text (R81). -/
def TextLine.read (line : String) : Option TextLine := TextLine.ofTokens (textTokens line.toList [])

end Sys2Proof.Machine
end

