-- ==== Sys2Proof/Safety.lean ====
section
/-! DEFINITION. The terms claims are stated in: the invariants of spec/10_state.md R22, R24, R27, R35 and R36, what
counts as a run, and what a sequence of operations pushes. -/

namespace Sys2Proof.Machine

/-- R22: in collect, STAGE[0] is the start marker. -/
def State.stageInv (s : State) : Prop := s.asmCnt ≠ 0 → s.stage[0] = startMark

/-- R24, R25: FRAME is its reset value or marker-valid, and marker-valid whenever FRAME_READY is 1. -/
def State.frameInv (s : State) : Prop :=
  (s.frame = Frame.zero ∨ s.frame.markerValid) ∧ (s.frameReady = true → s.frame.markerValid)

/-- R32, R133: TX_FRAME is its reset value or marker-valid. -/
def State.txInv (s : State) : Prop := s.txFrame = Frame.zero ∨ s.txFrame.markerValid

/-- R26, R27: LAST_CAUSE is NONE exactly when no desync has been counted since reset. -/
def State.causeInv (s : State) : Prop := s.lastCause = .noDesync ↔ s.desyncCount = 0

/-- R31: CS_STATUS never holds code 3. -/
def State.csInv (s : State) : Prop := s.cs.status ≠ .reserved3

/-- R33, R34: a window holds N samples and its write pointer is one of 0..N−1. -/
def Tracker.inv (c : Config) (tr : Tracker) : Prop := tr.win.length = c.n ∧ tr.wp < c.n

/-- R35, the four invariants of a tri-state classifier. -/
def TriUnit.inv (k : Nat) (u : TriUnit) : Prop :=
  (u.conf ≤ k - 1 ∧ u.exit ≤ k - 1) ∧ (u.conf > 0 → u.mode = .mid ∧ u.pend ≠ .mid)
    ∧ (u.mode ≠ .mid → u.conf = 0 ∧ u.pend = .mid) ∧ (u.exit > 0 → u.mode ≠ .mid)

/-- R36, the invariants of a binary classifier. -/
def BinUnit.inv (k : Nat) (u : BinUnit) : Prop :=
  (u.conf ≤ k - 1 ∧ u.exit ≤ k - 1) ∧ (u.mode = .on → u.conf = 0) ∧ (u.mode = .off → u.exit = 0)

/-- R20, R33 to R36: NT trackers, NS tri-state and NB binary classifiers, each in a legal state. -/
def State.unitsInv (s : State) : Prop :=
  (s.trk.length = s.cfg.nt ∧ ∀ tr ∈ s.trk, tr.inv s.cfg) ∧ (s.tri.length = s.cfg.ns ∧ ∀ u ∈ s.tri, u.inv s.cfg.k)
    ∧ (s.bin.length = s.cfg.nb ∧ ∀ u ∈ s.bin, u.inv s.cfg.k)

/-- The invariant of the block between operations, for a legal configuration. -/
structure State.Inv (s : State) : Prop where
  cfg : s.cfg.ok = true
  stage : s.stageInv
  frame : s.frameInv
  tx : s.txInv
  cause : s.causeInv
  cs : s.csInv
  units : s.unitsInv

/-- Run operations one after another, each on the state the one before it left (R60). -/
def execAll : List Instr → State → Host.Outcome State Fault Refusal
  | [], s => .next s
  | i :: is, s =>
    match exec i s with
    | .next t => execAll is t
    | .fault f => .fault f
    | .refused r => .refused r

/-- Run a text through the command port, one cycle an operation. -/
def runText (ops : List OpText) (s : State) : Host.Outcome State Fault Refusal :=
  Host.Core.run Sys2Proof.core ops.length (s.issue ops)

/-- The bytes a sequence of operations pushes, in order. -/
def pushedBytes (ops : List Instr) : List Byte :=
  ops.filterMap fun i =>
    match i with
    | .pushByte b => some b
    | _ => none

/-- The samples a sequence of operations adds to tracker `t`, in order. -/
def addedSamples (t : Nat) (ops : List Instr) : List Raw :=
  ops.filterMap fun i =>
    match i with
    | .trackAdd u v => if unitOf u = t then some v else none
    | _ => none

end Sys2Proof.Machine
end

