-- ==== Sys2Proof/Certificates/Slice0/Obligations.lean ====
section
/-! DEFINITION. The statements about SBUS-FSV, each from the numbered rules its docstring names. An equation
`exec i s = .next { s with … }` says both what the operation writes and that every other field is as before. -/

open Sys2Proof Sys2Proof.Machine

/-! ### Command encoding -/

/-- R76, R79, R81: the word the encoder writes for an operation decodes to that operation, also as a 32-bit table word. -/
def Obligations.EncodedInstrDecodesBack : Prop :=
  ∀ i : Instr, i.wf = true → decodeWord (encodeWord i) = i ∧ decodeTableWord 32 (encodeWord i).toNat = some i

/-- R76: the operation is selected by `cmd[3:0]` alone and takes its operands from the fields the table gives it; every
other bit is ignored. -/
def Obligations.CommandFieldsDecodeAsTabled : Prop :=
  ∀ w : CmdWord,
    (w.toNat % 16 = 0 → decodeWord w = .nop) ∧
    (w.toNat % 16 = 1 → decodeWord w = .pushByte (BitVec.ofNat 8 (w.toNat / 2 ^ 8 % 2 ^ 8))) ∧
    (w.toNat % 16 = 2 → decodeWord w = .idleGap) ∧
    (w.toNat % 16 = 3 → decodeWord w = .decode) ∧
    (w.toNat % 16 = 4 → decodeWord w = .encode) ∧
    (w.toNat % 16 = 5 → decodeWord w =
      .trackAdd (BitVec.ofNat 4 (w.toNat / 2 ^ 4 % 2 ^ 4)) (BitVec.ofNat 11 (w.toNat / 2 ^ 8 % 2 ^ 11))) ∧
    (w.toNat % 16 = 6 → decodeWord w =
      .classifyTri (BitVec.ofNat 4 (w.toNat / 2 ^ 4 % 2 ^ 4)) (BitVec.ofNat 11 (w.toNat / 2 ^ 8 % 2 ^ 11))) ∧
    (w.toNat % 16 = 7 → decodeWord w =
      .classifyBin (BitVec.ofNat 4 (w.toNat / 2 ^ 4 % 2 ^ 4)) (BitVec.ofNat 11 (w.toNat / 2 ^ 8 % 2 ^ 11))) ∧
    (8 ≤ w.toNat % 16 → decodeWord w = .reserved (BitVec.ofNat 4 (w.toNat % 16)))

/-- spec/opcode_table.json: a word belongs to exactly the row whose mnemonic the decoder's operation bears. -/
def Obligations.DecoderAgreesWithOpcodeTable : Prop :=
  ∀ w : CmdWord, ∀ r ∈ opcodeTable, w &&& r.mask = r.pattern ↔ r.mnemonic = (decodeWord w).mnemonic

/-- spec/95_test_vectors.md section 2.8: the words of the table decode as it says. -/
def Obligations.VectorWordsDecode : Prop :=
  decodeWord 0x00000000 = .nop ∧ decodeWord 0xFFF80000 = .nop ∧ decodeWord 0x00000F01 = .pushByte 0x0F ∧
    decodeWord 0x00070F01 = .pushByte 0x0F ∧ decodeWord 0x00071305 = .trackAdd 0 1811 ∧
    decodeWord 0x0005DC06 = .classifyTri 0 1500 ∧ decodeWord 0x0004B007 = .classifyBin 0 1200 ∧
    decodeWord 0x00000008 = .reserved 8 ∧ decodeWord 0x0000000F = .reserved 15 ∧
    decodeWord 0x00071355 = .trackAdd 5 1811

/-- R81: the command word of each line of operation text, what it decodes to, and what the pseudo-operations expand to. -/
def Obligations.OperationTextStandsForItsWords : Prop :=
  (∀ o : OpText, decodeWord o.word = o.instr) ∧
  (OpText.nop.word.toNat = 0 ∧ OpText.gap.word.toNat = 2 ∧ OpText.decode.word.toNat = 3 ∧
    ∀ c, (OpText.encode c).word.toNat = 4 ∧ (OpText.encode c).cycle.enc = c) ∧
  (∀ b, (OpText.push b).word.toNat = b.toNat * 2 ^ 8 + 1) ∧
  (∀ u v, (OpText.tadd u v).word.toNat = v.toNat * 2 ^ 8 + u.toNat * 2 ^ 4 + 5 ∧
    (OpText.tri u v).word.toNat = v.toNat * 2 ^ 8 + u.toNat * 2 ^ 4 + 6 ∧
    (OpText.bin u v).word.toNat = v.toNat * 2 ^ 8 + u.toNat * 2 ^ 4 + 7) ∧
  (∀ bs, (TextLine.pushN bs).expand = bs.map OpText.push) ∧
  (∀ c, (TextLine.pushF c).expand.length = 25 ∧
    (TextLine.pushF c).expand = (TextLine.pushN (encodeFrame c).toList).expand) ∧
  (∀ n o, (TextLine.rep n o).expand.length = n ∧ ∀ x ∈ (TextLine.rep n o).expand, x = o)

/-! ### Cycles, reset and configuration -/

/-- R75, R227, R253: in a cycle with a command and no reset, the step is the effect of the decoded operation on the
state with the last event gone; the port then moves on to the next cycle. -/
def Obligations.CommandCycleRunsDecodedInstr : Prop :=
  ∀ (s t : State) (i : Instr), s.cfg.ok = true → s.pins.rst = false → s.pins.cmdValid = true →
    decodeWord s.pins.cmd = i → exec i { s with evt := none } = .next t →
    step s = .next { t with port := s.port.tail }

/-- R250, R229: in a cycle with `rst = 1` the next state is the reset state of the same configuration, whatever the
command port carries; the port moves on to the next cycle. -/
def Obligations.ResetCycleGivesResetState : Prop :=
  ∀ s : State, s.cfg.ok = true → s.pins.rst = true →
    ∃ t, step s = .next t ∧ t = { State.resetWith s.cfg with port := s.port.tail } ∧ t.evt = none ∧ t.evtBits = 0

/-- R251, R20: what the registers and outputs hold after reset, for every legal configuration. -/
def Obligations.ResetStateHoldsListedValues : Prop :=
  ∀ c : Config, c.ok = true →
    let s := State.resetWith c
    s.asmCnt = 0 ∧ s.frameReady = false ∧ (∀ i (h : i < 25), s.frame[i] = 0x00 ∧ s.stage[i] = 0x00 ∧ s.txFrame[i] = 0x00) ∧
    s.desyncCount = 0 ∧ s.lastCause = .noDesync ∧ s.badCmd = false ∧
    (∀ k (h : k < 16), s.cs.ch[k] = 0) ∧ s.cs.d17 = false ∧ s.cs.d18 = false ∧ s.cs.status = .failsafe ∧
    (s.trk.length = c.nt ∧ ∀ tr ∈ s.trk, tr.win.length = c.n ∧ tr.wp = 0 ∧ (∀ v ∈ tr.win, v.toNat = c.releasedLevel) ∧
      tr.sum = c.n * c.releasedLevel ∧ (c.n = 10 → c.releasedLevel = 174 → tr.sum = 1740) ∧ tr.maj c = false) ∧
    (s.tri.length = c.ns ∧ ∀ u ∈ s.tri, u.mode = .mid ∧ u.pend = .mid ∧ u.conf = 0 ∧ u.exit = 0) ∧
    (s.bin.length = c.nb ∧ ∀ u ∈ s.bin, u.mode = .off ∧ u.conf = 0 ∧ u.exit = 0) ∧
    s.evt = none ∧ s.status = 0x0020

/-- R7, R190: a step is refused exactly when the configuration breaks a stated constraint, and otherwise completes
(R6, R109, R256: no operation waits). -/
def Obligations.OnlyBrokenConfigurationStopsAStep : Prop :=
  ∀ s : State,
    let legal : Prop :=
      (1 ≤ s.cfg.n ∧ s.cfg.n ≤ 1024) ∧ (1 ≤ s.cfg.nt ∧ s.cfg.nt ≤ 16) ∧ s.cfg.tri.length ≤ 16 ∧ s.cfg.bin.length ≤ 16 ∧
      (1 ≤ s.cfg.k ∧ s.cfg.k ≤ 255) ∧ (s.cfg.releasedLevel < s.cfg.activeLevel ∧ s.cfg.activeLevel ≤ 2047) ∧
      (∀ t ∈ s.cfg.tri, t.downEnter < t.upEnter ∧ t.upExit < t.upEnter ∧ t.downEnter < t.downExit) ∧
      (∀ t ∈ s.cfg.bin, t.btnExit < t.btnEnter)
    (legal → ∃ t, step s = .next t) ∧ (¬ legal → step s = .refused .badConfig)

/-- R109 (and R6): every operation completes in its own step, in every state. -/
def Obligations.EveryInstrCompletesInEveryState : Prop :=
  ∀ (i : Instr) (s : State), ∃ t, exec i s = .next t

/-- R60: a text issued on the port runs operation by operation; each sees the state the one before it left. -/
def Obligations.IssuedOperationsRunInOrder : Prop :=
  ∀ (o : OpText) (os : List OpText) (s t : State), s.cfg.ok = true →
    exec o.instr { s.issue (o :: os) with evt := none } = .next t →
    runText (o :: os) s = runText os { t with port := s.port }

/-! ### Frame synchronizer -/

/-- R105: NOP leaves every state as it is; every word with OP = 0 is a NOP; a cycle with `cmd_valid = 0` is the same as
one with a NOP. -/
def Obligations.NopChangesNothing : Prop :=
  (∀ s : State, exec .nop s = .next s) ∧ (∀ w : CmdWord, w &&& 0xF = 0 → decodeWord w = .nop) ∧
    (∀ s : State, s.cfg.ok = true → s.pins.rst = false → s.pins.cmdValid = false →
      step s = .next { s with evt := none, port := s.port.tail } ∧ step (s.withCommand (encodeWord .nop)) = step s)

/-- R100: PUSH_BYTE, case by case as its pseudocode, and its command word. -/
def Obligations.PushByteFollowsPseudocode : Prop :=
  ∀ (b : Byte) (s : State),
    (s.asmCnt = 0 → b = 0x0F → exec (.pushByte b) s = .next { s with stage := s.stage.set 0 b, asmCnt := 1 }) ∧
    (s.asmCnt = 0 → b ≠ 0x0F → exec (.pushByte b) s = .next s) ∧
    (s.asmCnt ≠ 0 → ∀ n : Fin 25, n.val = s.asmCnt.val + 1 →
      exec (.pushByte b) s = .next { s with stage := s.stage.set s.asmCnt.val b, asmCnt := n }) ∧
    (s.asmCnt = 24 → b ≠ 0x00 → exec (.pushByte b) s =
      .next { s with stage := s.stage.set 24 b, asmCnt := 0, lastCause := .badEnd, evt := some (.desync .badEnd),
                     desyncCount := BitVec.ofNat 16 (min (s.desyncCount.toNat + 1) 0xFFFF) }) ∧
    (s.asmCnt = 24 → b = 0x00 → s.frameReady = true → exec (.pushByte b) s =
      .next { s with stage := s.stage.set 24 b, asmCnt := 0, lastCause := .overrun, evt := some (.desync .overrun),
                     desyncCount := BitVec.ofNat 16 (min (s.desyncCount.toNat + 1) 0xFFFF) }) ∧
    (s.asmCnt = 24 → b = 0x00 → s.frameReady = false → exec (.pushByte b) s =
      .next { s with stage := s.stage.set 24 b, asmCnt := 0, frame := s.stage.set 24 b, frameReady := true,
                     evt := some .commit }) ∧
    decodeWord (BitVec.ofNat 32 (b.toNat <<< 8 ||| 0x1)) = .pushByte b

/-- R102: the 25th byte completes the window; it is accepted iff its first byte is 0x0F and its last 0x00, committed
when FRAME_READY is 0, discarded otherwise; the synchronizer is then in hunt. -/
def Obligations.WindowIsAcceptedIffMarkersMatch : Prop :=
  ∀ (b : Byte) (s t : State), s.stageInv → s.asmCnt = 24 → s.evt = none → exec (.pushByte b) s = .next t →
    t.asmCnt = 0 ∧
    (Frame.markerValid (s.stage.set 24 b) ∧ s.frameReady = false →
      t.frame = s.stage.set 24 b ∧ t.frameReady = true ∧ t.evt = some .commit) ∧
    (¬ (Frame.markerValid (s.stage.set 24 b) ∧ s.frameReady = false) →
      t.frame = s.frame ∧ t.frameReady = s.frameReady ∧ t.evt ≠ some .commit)

/-- R103: a marker-valid window that completes while FRAME_READY is 1 is discarded with Desync(OVERRUN); the held
frame stays. -/
def Obligations.OverrunKeepsTheHeldFrame : Prop :=
  ∀ s : State, s.asmCnt = 24 → s.frameReady = true →
    ∃ t, exec (.pushByte 0x00) s = .next t ∧ t.frame = s.frame ∧ t.frameReady = true ∧ t.asmCnt = 0 ∧
      t.lastCause = .overrun ∧ t.desyncCount.toNat = min (s.desyncCount.toNat + 1) 0xFFFF ∧
      t.evt = some (.desync .overrun) ∧ t.cs = s.cs ∧ t.txFrame = s.txFrame

/-- R104: IDLE_GAP discards a partial frame with Desync(GAP), does nothing in hunt, and so is idempotent. -/
def Obligations.IdleGapDiscardsPartialFrame : Prop :=
  ∀ s : State,
    (s.asmCnt ≠ 0 → exec .idleGap s =
      .next { s with asmCnt := 0, lastCause := .gap, evt := some (.desync .gap),
                     desyncCount := BitVec.ofNat 16 (min (s.desyncCount.toNat + 1) 0xFFFF) }) ∧
    (s.asmCnt = 0 → exec .idleGap s = .next s) ∧
    (∀ t, exec .idleGap s = .next t →
      t.frame = s.frame ∧ t.frameReady = s.frameReady ∧ t.stage = s.stage ∧ exec .idleGap t = .next t) ∧
    decodeWord 0x00000002 = .idleGap

/-- R106: from hunt, whatever operations run, FRAME_READY rises only on a byte 0x00 pushed while ASM_CNT is 24, in a
collect that began with a 0x0F pushed in hunt 24 PUSH_BYTE operations earlier with no IDLE_GAP between; FRAME then
holds exactly those 25 bytes (R50), so it is marker-valid, and stays so whatever operations follow. -/
def Obligations.CommitNeedsFullWindowFromStartMarker : Prop :=
  (∀ (ops : List Instr) (i : Instr) (s t u : State), s.asmCnt = 0 → execAll ops s = .next t → exec i t = .next u →
    t.frameReady = false → u.frameReady = true →
    i = .pushByte 0x00 ∧ t.asmCnt = 24 ∧ u.frame.markerValid ∧
      ∃ before rest w, ops = before ++ .pushByte 0x0F :: rest ∧ execAll before s = .next w ∧ w.asmCnt = 0 ∧
        (∀ j ∈ rest, j ≠ .idleGap) ∧ (pushedBytes rest).length = 23 ∧
        u.frame.toList = 0x0F :: pushedBytes rest ++ [0x00]) ∧
  (∀ (ops : List Instr) (s t : State), s.stageInv → s.frame.markerValid → execAll ops s = .next t → t.frame.markerValid)

/-- R107: a marker-valid frame whose first byte is pushed in hunt, whose bytes come with no IDLE_GAP between them (other
operations may), and whose last byte finds FRAME_READY = 0, is committed on that byte; before it the synchronizer has
collected 24 bytes and raised no desync. An IDLE_GAP puts any state in hunt. -/
def Obligations.ValidFrameFromHuntIsCommitted : Prop :=
  (∀ (f : Frame) (ops : List Instr) (s t : State), f.markerValid → s.asmCnt = 0 → (∀ j ∈ ops, j ≠ .idleGap) →
    (∃ rest, ops = .pushByte f[0] :: rest) → pushedBytes ops = f.toList.take 24 → execAll ops s = .next t →
    t.asmCnt = 24 ∧ t.frame = s.frame ∧ t.desyncCount = s.desyncCount ∧ (s.frameReady = false → t.frameReady = false) ∧
    (t.frameReady = false → exec (.pushByte f[24]) t =
      .next { t with stage := f, frame := f, frameReady := true, asmCnt := 0, evt := some .commit })) ∧
  (∀ s : State, ∃ t, exec .idleGap s = .next t ∧ t.asmCnt = 0)

/-- R107 at the command port: from ANY state with a legal configuration and no frame ready, one IDLE_GAP and the 25
bytes of a marker-valid frame, a command a cycle, leave that frame committed. -/
def Obligations.GapThenValidFrameCommitsAtThePort : Prop :=
  ∀ (f : Frame) (s : State), f.markerValid → s.cfg.ok = true → s.frameReady = false →
    ∃ t, runText (OpText.gap :: f.toList.map OpText.push) s = .next t ∧ t.frame = f ∧ t.frameReady = true ∧
      t.asmCnt = 0 ∧ t.evt = some .commit ∧ t.cs = s.cs ∧ t.port = s.port

/-- R108: positional framing alone does not resynchronize within one frame. A receiver reset while a marker-valid frame
`g` is on the line, then given the marker-valid frame `f`, with no IDLE_GAP, can commit a marker-valid frame that is
neither. (`State.reset`'s configuration, assumption log 1, plays no part: the synchronizer reads no parameter.) -/
def Obligations.FalseLockIsPossibleWithoutGap : Prop :=
  ∃ (g f : Frame) (k : Nat) (s t : State), g.markerValid ∧ f.markerValid ∧ 1 ≤ k ∧ k ≤ 24 ∧
    execAll ((g.toList.drop k).map Instr.pushByte) State.reset = .next s ∧ s.frameReady = false ∧
    execAll (f.toList.map Instr.pushByte) s = .next t ∧ t.frameReady = true ∧ t.frame.markerValid ∧
    t.frame ≠ f ∧ t.frame ≠ g

/-- R254: two commits are at least 25 PUSH_BYTE operations apart. -/
def Obligations.CommitsAreTwentyFivePushesApart : Prop :=
  ∀ (i j : Instr) (ops : List Instr) (s s' t u : State),
    exec i s = .next s' → s.frameReady = false → s'.frameReady = true → execAll ops s' = .next t →
    exec j t = .next u → t.frameReady = false → u.frameReady = true → 25 ≤ (pushedBytes (ops ++ [j])).length

/-! ### Channel codec -/

/-- R130: `decode(B)`, field by field, and the bits it does not read. -/
def Obligations.DecodeFrameFollowsPseudocode : Prop :=
  (∀ f : Frame,
    let p := ((List.range 22).map fun m => (f.toList.getD (1 + m) 0).toNat * 2 ^ (8 * m)).sum
    (∀ k (h : k < 16), (decodeFrame f).ch[k].toNat = p / 2 ^ (11 * k) % 2 ^ 11) ∧
    (decodeFrame f).d17 = f[23].getLsbD 0 ∧ (decodeFrame f).d18 = f[23].getLsbD 1 ∧
    (decodeFrame f).status =
      if f[23].getLsbD 3 then .failsafe else if f[23].getLsbD 2 then .lost else .ok) ∧
  (∀ f g : Frame, (∀ i (h : i < 25), 1 ≤ i → i ≤ 22 → f[i] = g[i]) → (∀ j < 4, f[23].getLsbD j = g[23].getLsbD j) →
    decodeFrame f = decodeFrame g)

/-- R51, R52: payload bit p is bit p mod 8 of frame byte 1 + p/8, the payload being the number of those bytes, and bit j
of channel k is payload bit 11k + j. -/
def Obligations.ChannelBitsArePayloadBits : Prop :=
  ∀ f : Frame,
    let p := ((List.range 22).map fun m => (f.toList.getD (1 + m) 0).toNat * 2 ^ (8 * m)).sum
    (∀ b, b < 176 → p.testBit b = (f.toList.getD (1 + b / 8) 0).getLsbD (b % 8)) ∧
    (∀ k j (h : k < 16), j < 11 → (decodeFrame f).ch[k].getLsbD j = p.testBit (11 * k + j)) ∧
    (∀ k j, k < 16 → j < 11 → ((decodeFrame f).ch.toList.getD k 0).getLsbD j =
      (f.toList.getD (1 + (11 * k + j) / 8) 0).getLsbD ((11 * k + j) % 8))

/-- R72: the byte expression of each channel. -/
def Obligations.ChannelsMatchByteSpanTable : Prop :=
  ∀ f : Frame,
    let b : Nat → Nat := fun i => (f.toList.getD i 0).toNat
    let ch : Nat → Nat := fun k => ((decodeFrame f).ch.toList.getD k 0).toNat
    ch 0 = (b 1 ||| b 2 <<< 8) &&& 0x7FF ∧
    ch 1 = (b 2 >>> 3 ||| b 3 <<< 5) &&& 0x7FF ∧
    ch 2 = (b 3 >>> 6 ||| b 4 <<< 2 ||| b 5 <<< 10) &&& 0x7FF ∧
    ch 3 = (b 5 >>> 1 ||| b 6 <<< 7) &&& 0x7FF ∧
    ch 4 = (b 6 >>> 4 ||| b 7 <<< 4) &&& 0x7FF ∧
    ch 5 = (b 7 >>> 7 ||| b 8 <<< 1 ||| b 9 <<< 9) &&& 0x7FF ∧
    ch 6 = (b 9 >>> 2 ||| b 10 <<< 6) &&& 0x7FF ∧
    ch 7 = (b 10 >>> 5 ||| b 11 <<< 3) &&& 0x7FF ∧
    ch 8 = (b 12 ||| b 13 <<< 8) &&& 0x7FF ∧
    ch 9 = (b 13 >>> 3 ||| b 14 <<< 5) &&& 0x7FF ∧
    ch 10 = (b 14 >>> 6 ||| b 15 <<< 2 ||| b 16 <<< 10) &&& 0x7FF ∧
    ch 11 = (b 16 >>> 1 ||| b 17 <<< 7) &&& 0x7FF ∧
    ch 12 = (b 17 >>> 4 ||| b 18 <<< 4) &&& 0x7FF ∧
    ch 13 = (b 18 >>> 7 ||| b 19 <<< 1 ||| b 20 <<< 9) &&& 0x7FF ∧
    ch 14 = (b 20 >>> 2 ||| b 21 <<< 6) &&& 0x7FF ∧
    ch 15 = (b 21 >>> 5 ||| b 22 <<< 3) &&& 0x7FF

/-- R131, R132: digital channels from bits 0 and 1; FAILSAFE whenever bit 3 is set, LOST when only bit 2 is, OK when
neither is; the channel values are produced alike in every status. -/
def Obligations.FlagByteClassifiesStatus : Prop :=
  (∀ f : Frame, (decodeFrame f).d17 = f[23].getLsbD 0 ∧ (decodeFrame f).d18 = f[23].getLsbD 1 ∧
    (f[23].getLsbD 3 = true → (decodeFrame f).status = .failsafe) ∧
    (f[23].getLsbD 3 = false → f[23].getLsbD 2 = true → (decodeFrame f).status = .lost) ∧
    (f[23].getLsbD 3 = false → f[23].getLsbD 2 = false → (decodeFrame f).status = .ok)) ∧
  (∀ (f : Frame) (b : Byte), (decodeFrame (f.set 23 b)).ch = (decodeFrame f).ch)

/-- R133: `encode(C)`, byte by byte. -/
def Obligations.EncodeFrameFollowsPseudocode : Prop :=
  ∀ c : ChannelSet,
    let p := ((List.range 16).map fun k => (c.ch.toList.getD k 0).toNat * 2 ^ (11 * k)).sum
    let f := encodeFrame c
    f[0] = 0x0F ∧ f[24] = 0x00 ∧ (∀ m < 22, (f.toList.getD (1 + m) 0).toNat = p / 2 ^ (8 * m) % 2 ^ 8) ∧
    f[23].getLsbD 0 = c.d17 ∧ f[23].getLsbD 1 = c.d18 ∧
    f[23].getLsbD 2 = decide (c.status = .lost ∨ c.status = .failsafe ∨ c.status = .reserved3) ∧
    f[23].getLsbD 3 = decide (c.status = .failsafe ∨ c.status = .reserved3) ∧ f[23].extractLsb' 4 4 = 0

/-- R134: DECODE consumes the ready frame into the ChannelSet and signals LIVE; with none ready nothing changes, so a
second DECODE does nothing. -/
def Obligations.DecodeConsumesReadyFrame : Prop :=
  ∀ s : State,
    (s.frameReady = true → exec .decode s =
      .next { s with cs := decodeFrame s.frame, frameReady := false, evt := some .live }) ∧
    (s.frameReady = false → exec .decode s = .next s) ∧ (∀ t, exec .decode s = .next t → exec .decode t = .next t) ∧
    decodeWord 0x00000003 = .decode

/-- R135, R80: ENCODE writes TX_FRAME from the operand on the `enc_*` ports of this cycle, signals ENCODED, touches
nothing else, and is idempotent. -/
def Obligations.EncodeWritesOnlyTxFrame : Prop :=
  ∀ s : State,
    exec .encode s = .next { s with txFrame := encodeFrame s.pins.enc, evt := some .encoded } ∧
    (∀ t, exec .encode s = .next t → exec .encode t = .next t) ∧ decodeWord 0x00000004 = .encode

/-- R136: encode after decode gives the frame back iff it is marker-valid, its reserved flag bits are 0, and FS comes
only with LOST. -/
def Obligations.EncodeAfterDecodeIsIdentityIff : Prop :=
  ∀ f : Frame, encodeFrame (decodeFrame f) = f ↔
    f.markerValid ∧ f[23].extractLsb' 4 4 = 0 ∧ (f[23].getLsbD 3 = true → f[23].getLsbD 2 = true)

/-- R137: decode after encode gives every ChannelSet back, but that status code 3 comes back as FAILSAFE. -/
def Obligations.DecodeAfterEncodeIsIdentity : Prop :=
  ∀ c : ChannelSet,
    (c.status ≠ .reserved3 → decodeFrame (encodeFrame c) = c) ∧
    (c.status = .reserved3 → decodeFrame (encodeFrame c) = { c with status := .failsafe })

/-- R138: payloads and channel tuples correspond one to one. -/
def Obligations.PayloadsAndChannelsCorrespond : Prop :=
  (∀ f g : Frame, (decodeFrame f).ch = (decodeFrame g).ch → ∀ i (h : i < 25), 1 ≤ i → i ≤ 22 → f[i] = g[i]) ∧
  (∀ ch : Vector Raw 16, ∃ f : Frame, (decodeFrame f).ch = ch)

/-! ### Trackers -/

/-- R161: TRACK_ADD overwrites the slot at the write pointer and moves the pointer on modulo N; an out-of-range unit
raises BadCmd and nothing else; the command word. -/
def Obligations.TrackAddOverwritesOldestSlot : Prop :=
  ∀ (t : UnitIx) (v : Raw) (s : State),
    (∀ tr, t.toNat < s.cfg.nt → s.trk[t.toNat]? = some tr → exec (.trackAdd t v) s =
      .next { s with trk := s.trk.set t.toNat { win := tr.win.set tr.wp v, wp := (tr.wp + 1) % s.cfg.n } }) ∧
    (t.toNat ≥ s.cfg.nt → exec (.trackAdd t v) s = .next { s with badCmd := true, evt := some .badCmd }) ∧
    decodeWord (BitVec.ofNat 32 (v.toNat <<< 8 ||| t.toNat <<< 4 ||| 0x5)) = .trackAdd t v

/-- R162: TRK_SUM[t] is the exact sum of the N slots of tracker t, shown on `trk_sum_o[t]`; it is at most N·2047 and
fits SUM_W bits, 15 at N = 10. -/
def Obligations.TrackerSumIsExactAndFits : Prop :=
  (∀ s : State, s.Inv → ∀ (t : Nat) (tr : Tracker), s.trk[t]? = some tr →
    s.outputs.trkSum[t]? = some tr.sum ∧
    tr.sum = ((List.range s.cfg.n).map fun j => (tr.win.getD j 0).toNat).sum ∧
    tr.sum ≤ s.cfg.n * 2047 ∧ tr.sum < 2 ^ s.cfg.sumW) ∧
  (∀ c : Config, c.n = 10 → c.sumW = 15)

/-- R163: TRK_MAJ is 1 iff TRK_SUM exceeds ⌊N/2⌋·A + ⌈N/2⌉·R; 9925 at the defaults. -/
def Obligations.MajorityIsSumAboveThreshold : Prop :=
  (∀ (s : State) (t : Nat) (tr : Tracker), s.trk[t]? = some tr →
    (s.outputs.trkMaj[t]? = some 1 ↔
      tr.sum > s.cfg.n / 2 * s.cfg.activeLevel + (s.cfg.n - s.cfg.n / 2) * s.cfg.releasedLevel)) ∧
  (∀ c : Config, c.n = 10 → c.activeLevel = 1811 → c.releasedLevel = 174 → c.majThresh = 9925)

/-- R164: for a window of the two levels with k active samples, in any order, the sum is k·A + (N−k)·R, and TRK_MAJ is 1
iff k is a strict majority. -/
def Obligations.MajorityMeansStrictMajority : Prop :=
  ∀ (c : Config) (tr : Tracker), c.ok = true → tr.win.length = c.n →
    (∀ v ∈ tr.win, v.toNat = c.activeLevel ∨ v.toNat = c.releasedLevel) →
    let k := tr.win.countP fun v => v.toNat == c.activeLevel
    tr.sum = k * c.activeLevel + (c.n - k) * c.releasedLevel ∧
    (tr.sum > c.majThresh ↔
      ((k : Int) - (c.n / 2 : Nat)) * ((c.activeLevel : Int) - c.releasedLevel) > 0) ∧
    (tr.maj c = true ↔ 2 * k > c.n)

/-- R160: after any operations from reset, the window of tracker t holds its last N added samples, padded with
RELEASED_LEVEL, as a multiset; no operation but TRACK_ADD on unit t changes tracker t. -/
def Obligations.WindowHoldsTheLastSamples : Prop :=
  (∀ (c : Config) (ops : List Instr) (s : State) (t : Nat), c.ok = true → t < c.nt →
    execAll ops (State.resetWith c) = .next s →
    ∃ tr, s.trk[t]? = some tr ∧ tr.win.length = c.n ∧
      tr.win.Perm ((List.replicate c.n (BitVec.ofNat 11 c.releasedLevel) ++ addedSamples t ops).drop
        (addedSamples t ops).length)) ∧
  (∀ (i : Instr) (s s' : State) (t : Nat), exec i s = .next s' → (∀ u v, i = .trackAdd u v → u.toNat ≠ t) →
    s'.trk[t]? = s.trk[t]?)

/-- R165: a fresh tracker's sum is N·RELEASED_LEVEL, at most MAJ_THRESH; from reset, with fewer than
⌊N/2⌋+1 active additions among samples of the two levels, TRK_MAJ is 0. -/
def Obligations.ColdStartNeverReportsActive : Prop :=
  (∀ c : Config, c.ok = true →
    (Tracker.reset c).sum = c.n * c.releasedLevel ∧ (Tracker.reset c).sum ≤ c.majThresh) ∧
  ∀ (c : Config) (ops : List Instr) (s : State) (t : Nat), c.ok = true → t < c.nt →
    execAll ops (State.resetWith c) = .next s →
    (∀ v ∈ addedSamples t ops, v.toNat = c.activeLevel ∨ v.toNat = c.releasedLevel) →
    ((addedSamples t ops).countP fun v => v.toNat == c.activeLevel) < c.n / 2 + 1 →
    s.outputs.trkMaj[t]? = some 0

/-- R166: TRACK_ADD on one unit writes no other tracker and reads none. -/
def Obligations.TrackersAreIndependent : Prop :=
  (∀ (t : UnitIx) (v : Raw) (s s' : State) (u : Nat), exec (.trackAdd t v) s = .next s' → u ≠ t.toNat →
    s'.trk[u]? = s.trk[u]?) ∧
  (∀ (t : UnitIx) (v : Raw) (s₁ s₂ t₁ t₂ : State), s₁.cfg = s₂.cfg → s₁.trk[t.toNat]? = s₂.trk[t.toNat]? →
    exec (.trackAdd t v) s₁ = .next t₁ → exec (.trackAdd t v) s₂ = .next t₂ →
    t₁.trk[t.toNat]? = t₂.trk[t.toNat]?)

/-! ### Classifiers -/

/-- R180: `normVal`, its range, its end points and its monotonicity. -/
def Obligations.NormIsExactClampedQuotient : Prop :=
  (∀ v : Raw,
    let c : Nat := min (max v.toNat 174) 1800
    (c > 992 → normVal v = ((c : Rat) - 992) / 808) ∧ (c < 992 → normVal v = ((c : Rat) - 992) / 818) ∧
    (c = 992 → normVal v = 0) ∧ (v.toNat ≥ 1800 → normVal v = 1) ∧ (v.toNat ≤ 174 → normVal v = -1) ∧
    -1 ≤ normVal v ∧ normVal v ≤ 1) ∧
  (∀ v w : Raw, v.toNat ≤ w.toNat → normVal v ≤ normVal w)

/-- R181: the integer form of every threshold test, and the raw ranges at the default thresholds. -/
def Obligations.ThresholdTestsHaveIntegerForm : Prop :=
  (∀ (v : Raw) (θ : Rat),
    let c : Rat := ((min (max v.toNat 174) 1800 : Nat) : Rat)
    (θ ≥ 0 → (normVal v > θ ↔ c > 992 + 808 * θ)) ∧ (θ < 0 → (normVal v > θ ↔ c > 992 + 818 * θ)) ∧
    (θ > 0 → (normVal v < θ ↔ c < 992 + 808 * θ)) ∧ (θ ≤ 0 → (normVal v < θ ↔ c < 992 + 818 * θ))) ∧
  (∀ v : Raw,
    (normVal v > 9 / 20 ↔ v.toNat ≥ 1356) ∧ (normVal v < -11 / 20 ↔ v.toNat ≤ 542) ∧ (normVal v < 3 / 20 ↔ v.toNat ≤ 1113) ∧
    (normVal v > -3 / 20 ↔ v.toNat ≥ 870) ∧ (normVal v > 1 / 5 ↔ v.toNat ≥ 1154) ∧ (normVal v < -1 / 5 ↔ v.toNat ≤ 828) ∧
    normVal v ≠ 9 / 20 ∧ normVal v ≠ -11 / 20 ∧ normVal v ≠ 3 / 20 ∧ normVal v ≠ -3 / 20 ∧ normVal v ≠ 1 / 5 ∧ normVal v ≠ -1 / 5)

/-- R184: CLASSIFY_TRI, case by case as its pseudocode, and its command word. -/
def Obligations.ClassifyTriFollowsPseudocode : Prop :=
  ∀ (u : UnitIx) (v : Raw) (s : State),
    (∀ th q, s.cfg.tri[u.toNat]? = some th → s.tri[u.toNat]? = some q → ∃ q',
      exec (.classifyTri u v) s = .next { s with tri := s.tri.set u.toNat q' } ∧
      (q.mode = .mid → ¬ normVal v > th.upEnter → ¬ normVal v < th.downEnter → q' = { q with pend := .mid, conf := 0 }) ∧
      (∀ cand, q.mode = .mid → (normVal v > th.upEnter ∧ cand = .up ∨
          ¬ normVal v > th.upEnter ∧ normVal v < th.downEnter ∧ cand = .down) →
        let c := if cand = q.pend then q.conf + 1 else 1
        (c = s.cfg.k → q' = { mode := cand, pend := .mid, conf := 0, exit := 0 }) ∧
        (c ≠ s.cfg.k → q' = { q with pend := cand, conf := c })) ∧
      ((q.mode = .up ∧ normVal v < th.upExit ∨ q.mode = .down ∧ normVal v > th.downExit) →
        (q.exit + 1 = s.cfg.k → q' = { q with mode := .mid, exit := 0 }) ∧
        (q.exit + 1 ≠ s.cfg.k → q' = { q with exit := q.exit + 1 })) ∧
      ((q.mode = .up ∧ ¬ normVal v < th.upExit ∨ q.mode = .down ∧ ¬ normVal v > th.downExit) →
        q' = { q with exit := 0 })) ∧
    (u.toNat ≥ s.cfg.ns → exec (.classifyTri u v) s = .next { s with badCmd := true, evt := some .badCmd }) ∧
    decodeWord (BitVec.ofNat 32 (v.toNat <<< 8 ||| u.toNat <<< 4 ||| 0x6)) = .classifyTri u v

/-- R186: CLASSIFY_BIN, case by case as its pseudocode, and its command word. -/
def Obligations.ClassifyBinFollowsPseudocode : Prop :=
  ∀ (u : UnitIx) (v : Raw) (s : State),
    (∀ th q, s.cfg.bin[u.toNat]? = some th → s.bin[u.toNat]? = some q → ∃ q',
      exec (.classifyBin u v) s = .next { s with bin := s.bin.set u.toNat q' } ∧
      (q.mode = .off → normVal v > th.btnEnter →
        (q.conf + 1 = s.cfg.k → q' = { q with mode := .on, conf := 0 }) ∧
        (q.conf + 1 ≠ s.cfg.k → q' = { q with conf := q.conf + 1 })) ∧
      (q.mode = .off → ¬ normVal v > th.btnEnter → q' = { q with conf := 0 }) ∧
      (q.mode = .on → normVal v < th.btnExit →
        (q.exit + 1 = s.cfg.k → q' = { q with mode := .off, exit := 0 }) ∧
        (q.exit + 1 ≠ s.cfg.k → q' = { q with exit := q.exit + 1 })) ∧
      (q.mode = .on → ¬ normVal v < th.btnExit → q' = { q with exit := 0 })) ∧
    (u.toNat ≥ s.cfg.nb → exec (.classifyBin u v) s = .next { s with badCmd := true, evt := some .badCmd }) ∧
    decodeWord (BitVec.ofNat 32 (v.toNat <<< 8 ||| u.toNat <<< 4 ||| 0x7)) = .classifyBin u v

/-- R188: K consecutive samples for one candidate commit it exactly on the K-th; K−1 of them and one MID-candidate sample
do not, and leave the counter at 0. For UP and DOWN from MID, and for the binary OFF to ON. -/
def Obligations.DebounceCommitsOnTheKthSample : Prop :=
  (∀ (u : UnitIx) (s : State) (th : TriThresholds) (q : TriUnit) (cand : TriMode) (vs : List Raw),
    s.cfg.tri[u.toNat]? = some th → s.tri[u.toNat]? = some q → 1 ≤ s.cfg.k → q.mode = .mid → q.pend ≠ cand →
    (∀ v ∈ vs, cand = .up ∧ normVal v > th.upEnter ∨
      cand = .down ∧ ¬ normVal v > th.upEnter ∧ normVal v < th.downEnter) →
    (vs.length < s.cfg.k → ∃ t q', execAll (vs.map (Instr.classifyTri u)) s = .next t ∧ t.tri[u.toNat]? = some q' ∧
      q'.mode = .mid) ∧
    (vs.length = s.cfg.k → ∃ t q', execAll (vs.map (Instr.classifyTri u)) s = .next t ∧ t.tri[u.toNat]? = some q' ∧
      q'.mode = cand) ∧
    (vs.length + 1 = s.cfg.k → ∀ m : Raw, ¬ normVal m > th.upEnter → ¬ normVal m < th.downEnter →
      ∃ t q', execAll ((vs ++ [m]).map (Instr.classifyTri u)) s = .next t ∧ t.tri[u.toNat]? = some q' ∧
        q'.mode = .mid ∧ q'.conf = 0)) ∧
  (∀ (u : UnitIx) (s : State) (th : BinThresholds) (q : BinUnit) (vs : List Raw),
    s.cfg.bin[u.toNat]? = some th → s.bin[u.toNat]? = some q → 1 ≤ s.cfg.k → q.mode = .off → q.conf = 0 →
    (∀ v ∈ vs, normVal v > th.btnEnter) →
    (vs.length < s.cfg.k → ∃ t q', execAll (vs.map (Instr.classifyBin u)) s = .next t ∧ t.bin[u.toNat]? = some q' ∧
      q'.mode = .off) ∧
    (vs.length = s.cfg.k → ∃ t q', execAll (vs.map (Instr.classifyBin u)) s = .next t ∧ t.bin[u.toNat]? = some q' ∧
      q'.mode = .on) ∧
    (vs.length + 1 = s.cfg.k → ∀ m : Raw, ¬ normVal m > th.btnEnter →
      ∃ t q', execAll ((vs ++ [m]).map (Instr.classifyBin u)) s = .next t ∧ t.bin[u.toNat]? = some q' ∧
        q'.mode = .off ∧ q'.conf = 0))

/-- R187: samples that do not qualify for leaving UP, DOWN or ON keep the mode and reset the exit counter; leaving the
mode takes K consecutive qualifying samples. -/
def Obligations.HysteresisHoldsTheMode : Prop :=
  (∀ (u : UnitIx) (s : State) (th : TriThresholds) (q : TriUnit) (vs : List Raw),
    s.cfg.tri[u.toNat]? = some th → s.tri[u.toNat]? = some q → q.mode ≠ .mid →
    let leaves : Raw → Prop := fun v => q.mode = .up ∧ normVal v < th.upExit ∨ q.mode = .down ∧ normVal v > th.downExit
    ∃ t q', execAll (vs.map (Instr.classifyTri u)) s = .next t ∧ t.tri[u.toNat]? = some q' ∧
      (vs ≠ [] → (∀ v ∈ vs, q.mode = .up ∧ normVal v ≥ th.upExit ∨ q.mode = .down ∧ normVal v ≤ th.downExit) →
        q' = { q with exit := 0 }) ∧
      (q.exit = 0 → q'.mode ≠ q.mode → ∃ before window rest, vs = before ++ window ++ rest ∧
        window.length = s.cfg.k ∧ ∀ v ∈ window, leaves v)) ∧
  (∀ (u : UnitIx) (s : State) (th : BinThresholds) (q : BinUnit) (vs : List Raw),
    s.cfg.bin[u.toNat]? = some th → s.bin[u.toNat]? = some q → q.mode = .on →
    ∃ t q', execAll (vs.map (Instr.classifyBin u)) s = .next t ∧ t.bin[u.toNat]? = some q' ∧
      (vs ≠ [] → (∀ v ∈ vs, normVal v ≥ th.btnExit) → q' = { q with exit := 0 }) ∧
      (q.exit = 0 → q'.mode ≠ .on → ∃ before window rest, vs = before ++ window ++ rest ∧
        window.length = s.cfg.k ∧ ∀ v ∈ window, normVal v < th.btnExit))

/-- R189: the next state of a classifier depends on its own state, the sample and the parameters alone, and its
operation changes no other classifier. -/
def Obligations.ClassifiersAreIsolated : Prop :=
  (∀ (u : UnitIx) (v : Raw) (s₁ s₂ t₁ t₂ : State), s₁.cfg = s₂.cfg → s₁.tri[u.toNat]? = s₂.tri[u.toNat]? →
    exec (.classifyTri u v) s₁ = .next t₁ → exec (.classifyTri u v) s₂ = .next t₂ →
    t₁.tri[u.toNat]? = t₂.tri[u.toNat]? ∧ t₁.bin = s₁.bin ∧ ∀ w, w ≠ u.toNat → t₁.tri[w]? = s₁.tri[w]?) ∧
  (∀ (u : UnitIx) (v : Raw) (s₁ s₂ t₁ t₂ : State), s₁.cfg = s₂.cfg → s₁.bin[u.toNat]? = s₂.bin[u.toNat]? →
    exec (.classifyBin u v) s₁ = .next t₁ → exec (.classifyBin u v) s₂ = .next t₂ →
    t₁.bin[u.toNat]? = t₂.bin[u.toNat]? ∧ t₁.tri = s₁.tri ∧ ∀ w, w ≠ u.toNat → t₁.bin[w]? = s₁.bin[w]?)

/-! ### Error events, event outputs and the status word -/

/-- R220, R222: an operation signals DESYNC(c) exactly under the conditions R220 lists for c; it has then counted the
event, recorded c, emptied ASM_CNT and changed nothing else but the staged bytes. The cause codes. -/
def Obligations.DesyncChangesOnlyItsRecords : Prop :=
  (∀ (i : Instr) (s t : State) (c : Cause), s.evt = none → exec i s = .next t →
    (t.evt = some (.desync c) ↔
      c = .badEnd ∧ (∃ b, i = .pushByte b ∧ b ≠ 0x00) ∧ s.asmCnt = 24 ∨
        c = .overrun ∧ i = .pushByte 0x00 ∧ s.asmCnt = 24 ∧ s.frameReady = true ∨
        c = .gap ∧ i = .idleGap ∧ s.asmCnt ≠ 0) ∧
    (t.evt = some (.desync c) →
      t = { s with stage := t.stage, asmCnt := 0, lastCause := c, evt := some (.desync c),
                   desyncCount := BitVec.ofNat 16 (min (s.desyncCount.toNat + 1) 0xFFFF) })) ∧
  Cause.noDesync.code = 0 ∧ Cause.badEnd.code = 1 ∧ Cause.overrun.code = 2 ∧ Cause.gap.code = 3

/-- R221, R26, R28: DESYNC_COUNT and LAST_CAUSE change exactly at a desync event, whose cause is never NONE, the count
saturating at 0xFFFF; without reset no step lowers the count, puts LAST_CAUSE back to NONE or clears BAD_CMD. -/
def Obligations.ErrorRecordsClearOnlyAtReset : Prop :=
  ∀ s t : State, s.pins.rst = false → step s = .next t →
    (∀ c, t.evt = some (.desync c) →
      c ≠ .noDesync ∧ t.desyncCount.toNat = min (s.desyncCount.toNat + 1) 0xFFFF ∧ t.lastCause = c) ∧
    ((∀ c, t.evt ≠ some (.desync c)) → t.desyncCount = s.desyncCount ∧ t.lastCause = s.lastCause) ∧
    s.desyncCount.toNat ≤ t.desyncCount.toNat ∧ (s.lastCause ≠ .noDesync → t.lastCause ≠ .noDesync) ∧
    (s.badCmd = true → t.badCmd = true)

/-- R224: BadCmd is raised by a reserved op code and by a unit index at or above its count, and by nothing else; it sets
BAD_CMD, signals BADCMD, and changes nothing else. -/
def Obligations.BadCommandsOnlySetBadCmd : Prop :=
  (∀ (op : BitVec 4) (s : State), exec (.reserved op) s = .next { s with badCmd := true, evt := some .badCmd }) ∧
  (∀ w : CmdWord, 8 ≤ w.toNat % 16 → ∃ op, decodeWord w = .reserved op) ∧
  (∀ (i : Instr) (s t : State), s.evt = none → exec i s = .next t →
    (t.evt = some .badCmd ↔ (∃ op, i = .reserved op) ∨ (∃ u v, i = .trackAdd u v ∧ u.toNat ≥ s.cfg.nt) ∨
      (∃ u v, i = .classifyTri u v ∧ u.toNat ≥ s.cfg.ns) ∨ (∃ u v, i = .classifyBin u v ∧ u.toNat ≥ s.cfg.nb)) ∧
    (t.evt = some .badCmd → t = { s with badCmd := true, evt := some .badCmd }) ∧
    (t.evt ≠ some .badCmd → t.badCmd = s.badCmd))

/-- R227: the bits of `evt_o` for each event, at most one of bits 0, 1, 4, 5 and 6 set, CAUSE 0 without DESYNC, and all
0 after a cycle that accepts no operation. -/
def Obligations.EventPortShowsOneEvent : Prop :=
  (∀ s : State,
    (s.evtBits.getLsbD 0 = decide (s.evt = some .commit)) ∧
    (s.evtBits.getLsbD 1 = true ↔ ∃ c, s.evt = some (.desync c)) ∧
    (∀ c, s.evt = some (.desync c) → s.evtBits.extractLsb' 2 2 = c.code) ∧
    (s.evtBits.getLsbD 1 = false → s.evtBits.extractLsb' 2 2 = 0) ∧
    (s.evtBits.getLsbD 4 = decide (s.evt = some .live)) ∧ (s.evtBits.getLsbD 5 = decide (s.evt = some .encoded)) ∧
    (s.evtBits.getLsbD 6 = decide (s.evt = some .badCmd)) ∧
    (∀ i ∈ [0, 1, 4, 5, 6], ∀ j ∈ [0, 1, 4, 5, 6], s.evtBits.getLsbD i = true → s.evtBits.getLsbD j = true → i = j)) ∧
  (∀ s t : State, step s = .next t → s.pins.rst = true ∨ s.pins.cmdValid = false → t.evtBits = 0)

/-- R228, R227: LIVE comes exactly from a DECODE that consumes a frame, COMMIT exactly from a rise of FRAME_READY,
ENCODED exactly from ENCODE. -/
def Obligations.EventsMarkTheirOperations : Prop :=
  ∀ (i : Instr) (s t : State), s.evt = none → exec i s = .next t →
    (t.evt = some .live ↔ i = .decode ∧ s.frameReady = true) ∧
    (t.evt = some .live ↔ s.frameReady = true ∧ t.frameReady = false) ∧
    (t.evt = some .commit ↔ s.frameReady = false ∧ t.frameReady = true) ∧ (t.evt = some .encoded ↔ i = .encode)

/-- R226: when byte 24 is bad and a frame is held, one desync event is counted, and its cause is BAD_END. -/
def Obligations.BadEndIsTestedBeforeOverrun : Prop :=
  ∀ (b : Byte) (s : State), b ≠ 0x00 → s.asmCnt = 24 → s.frameReady = true →
    ∃ t, exec (.pushByte b) s = .next t ∧ t.lastCause = .badEnd ∧
      t.desyncCount.toNat = min (s.desyncCount.toNat + 1) 0xFFFF ∧ t.evt = some (.desync .badEnd) ∧ t.asmCnt = 0 ∧
      t.frame = s.frame ∧ t.frameReady = true ∧ t.badCmd = s.badCmd

/-- R37: the fields of STATUS, with the codes CSST (R31, R74) and CAUSE (R27, R220) hold. -/
def Obligations.StatusWordPacksItsFields : Prop :=
  (∀ s : State, s.status.getLsbD 0 = s.frameReady ∧ s.status.getLsbD 1 = decide (s.asmCnt.val ≠ 0) ∧
    s.status.extractLsb' 2 2 = s.lastCause.code ∧ s.status.extractLsb' 4 2 = s.cs.status.code ∧
    (s.status.extractLsb' 6 5).toNat = s.asmCnt.val ∧ s.status.getLsbD 11 = s.badCmd ∧
    s.status.extractLsb' 12 4 = 0) ∧
  (∀ c : Config, (State.resetWith c).status = 0x0020) ∧
  (Status.ok.code = 0 ∧ Status.lost.code = 1 ∧ Status.failsafe.code = 2 ∧ Status.reserved3.code = 3) ∧
  (Cause.noDesync.code = 0 ∧ Cause.badEnd.code = 1 ∧ Cause.overrun.code = 2 ∧ Cause.gap.code = 3)

/-- R75, R35, R36, R191: every output port shows its own register, unit by unit, one entry a unit, in the mode codes; the
codes of `cs_status_o` and the fields of `status_o` are in `StatusWordPacksItsFields`. -/
def Obligations.OutputPortsShowTheirRegisters : Prop :=
  (∀ s : State,
    s.outputs.frame = s.frame ∧ s.outputs.frameReady = (if s.frameReady then 1 else 0) ∧
    s.outputs.csCh = s.cs.ch ∧ s.outputs.csD17 = (if s.cs.d17 then 1 else 0) ∧
    s.outputs.csD18 = (if s.cs.d18 then 1 else 0) ∧ s.outputs.csStatus = s.cs.status.code ∧
    s.outputs.txFrame = s.txFrame ∧ s.outputs.status = s.status ∧ s.outputs.desyncCount = s.desyncCount ∧
    s.outputs.evt = s.evtBits ∧
    (∀ (t : Nat) (tr : Tracker), s.trk[t]? = some tr → s.outputs.trkSum[t]? = some tr.sum ∧
      s.outputs.trkMaj[t]? = some (if tr.sum > s.cfg.majThresh then 1 else 0)) ∧
    (∀ (k : Nat) (q : TriUnit), s.tri[k]? = some q → s.outputs.triMode[k]? = some q.mode.code) ∧
    (∀ (k : Nat) (q : BinUnit), s.bin[k]? = some q → s.outputs.binMode[k]? = some q.mode.code) ∧
    s.outputs.trkSum.length = s.trk.length ∧ s.outputs.trkMaj.length = s.trk.length ∧
    s.outputs.triMode.length = s.tri.length ∧ s.outputs.binMode.length = s.bin.length) ∧
  (TriMode.down.code = 0 ∧ TriMode.mid.code = 1 ∧ TriMode.up.code = 2) ∧ BinMode.off.code = 0 ∧ BinMode.on.code = 1

/-! ### The whole block -/

/-- R21: each register is written by the operations its row names, and by no other; the configuration and the port
values by none (R39). That IDLE_GAP, which R21's row for ASM_CNT and STAGE names too, leaves STAGE as it stands is the
model's choice (assumption log 7): R104 writes ASM_CNT alone, and what the discarded bytes then hold is open (I10). -/
def Obligations.RegistersChangeOnlyByTheirWriters : Prop :=
  ∀ (i : Instr) (s t : State), exec i s = .next t →
    (t.asmCnt ≠ s.asmCnt ∨ t.desyncCount ≠ s.desyncCount ∨ t.lastCause ≠ s.lastCause →
      (∃ b, i = .pushByte b) ∨ i = .idleGap) ∧
    (t.stage ≠ s.stage ∨ t.frame ≠ s.frame → ∃ b, i = .pushByte b) ∧
    (t.frameReady = true → s.frameReady = false → ∃ b, i = .pushByte b) ∧
    (t.frameReady = false → s.frameReady = true → i = .decode) ∧
    (t.frame ≠ s.frame → s.frameReady = false ∧ t.frameReady = true) ∧
    (t.badCmd ≠ s.badCmd → t.badCmd = true ∧ t.evt = some .badCmd) ∧
    (t.cs ≠ s.cs → i = .decode) ∧ (t.txFrame ≠ s.txFrame → i = .encode) ∧
    (∀ k, t.trk[k]? ≠ s.trk[k]? → ∃ u v, i = .trackAdd u v ∧ u.toNat = k) ∧
    (∀ k, t.tri[k]? ≠ s.tri[k]? → ∃ u v, i = .classifyTri u v ∧ u.toNat = k) ∧
    (∀ k, t.bin[k]? ≠ s.bin[k]? → ∃ u v, i = .classifyBin u v ∧ u.toNat = k) ∧
    t.trk.length = s.trk.length ∧ t.tri.length = s.tri.length ∧ t.bin.length = s.bin.length ∧
    t.cfg = s.cfg ∧ t.port = s.port

/-- R22, R24, R27, R31, R33 to R36: every step keeps the invariant of the block, from every state that meets it. -/
def Obligations.EveryStepKeepsTheInvariant : Prop :=
  ∀ s t : State, s.Inv → step s = .next t → t.Inv

/-- R251 with R22 to R36: the reset state of every legal configuration meets the invariant, `State.reset` among them (its
configuration is the model's choice, assumption log 1). -/
def Obligations.ResetMeetsTheInvariant : Prop :=
  (∀ c : Config, c.ok = true → (State.resetWith c).Inv) ∧ State.reset.Inv

/-- R20, R7, R9: in every state that meets the invariant, the registers kept as numbers fit their widths. -/
def Obligations.RegistersFitTheirWidths : Prop :=
  ∀ s : State, s.Inv →
    (∀ tr ∈ s.trk, tr.wp < 2 ^ s.cfg.wpW ∧ tr.win.length = s.cfg.n) ∧
    (∀ u ∈ s.tri, u.conf < 2 ^ s.cfg.cntW ∧ u.exit < 2 ^ s.cfg.cntW) ∧
    (∀ u ∈ s.bin, u.conf < 2 ^ s.cfg.cntW ∧ u.exit < 2 ^ s.cfg.cntW) ∧ s.asmCnt.val < 2 ^ 5
end

