-- ==== Sys2Proof/Laws/Codec.lean ====
section
/-! SUPPORT. The bit-field operations of the codec: packing, fields, the payload of a frame, the bytes of an encoded frame
and the bits of its flag byte. -/

namespace Sys2Proof.Machine

theorem packFields_lt (w : Nat) (l : List (BitVec w)) : packFields w l < 2 ^ (w * l.length) := by
  induction l with
  | nil => simp [packFields]
  | cons a l ih =>
    have ha := a.isLt
    calc packFields w (a :: l) = a.toNat + 2 ^ w * packFields w l := rfl
      _ < 2 ^ w * (packFields w l + 1) := by rw [Nat.mul_succ]; omega
      _ ≤ 2 ^ w * 2 ^ (w * l.length) := Nat.mul_le_mul_left _ ih
      _ = 2 ^ (w * (a :: l).length) := by rw [← pow_add, List.length_cons]; congr 1; ring

/-- Bit `p` of the packed number is bit `p mod w` of field `p / w`. -/
theorem packFields_testBit (w : Nat) (hw : 0 < w) (l : List (BitVec w)) (p : Nat) :
    (packFields w l).testBit p = (l.getD (p / w) 0).getLsbD (p % w) := by
  induction l generalizing p with
  | nil => simp [packFields]
  | cons a l ih =>
    rw [packFields, Nat.add_comm, Nat.testBit_two_pow_mul_add _ a.isLt]
    split
    case isTrue h => rw [Nat.div_eq_of_lt h, Nat.mod_eq_of_lt h]; rfl
    case isFalse h =>
      have hd : p / w = (p - w) / w + 1 := by rw [← Nat.div_eq_sub_div hw (by omega)]
      rw [ih, hd, List.getD_cons_succ, ← Nat.mod_eq_sub_mod (by omega)]

/-- The packed number as the sum the spec writes (R51, R71). -/
theorem packFields_eq_sum (w : Nat) (l : List (BitVec w)) :
    packFields w l = ((List.range l.length).map fun m => (l.getD m 0).toNat * 2 ^ (w * m)).sum := by
  induction l with
  | nil => rfl
  | cons a l ih =>
    rw [packFields, List.length_cons, List.range_succ_eq_map, List.map_cons, List.sum_cons, ih, List.map_map,
      ← List.sum_map_mul_left]
    congr 1
    · simp
    · congr 1
      apply List.map_congr_left
      intro m _
      simp [Function.comp]
      ring

theorem fieldAt_getLsbD (w P k j : Nat) (hj : j < w) : (fieldAt w P k).getLsbD j = P.testBit (w * k + j) := by
  rw [fieldAt, BitVec.getLsbD_ofNat, decide_eq_true hj, Nat.testBit_shiftRight, Bool.true_and]

theorem fieldAt_toNat (w P k : Nat) : (fieldAt w P k).toNat = P / 2 ^ (w * k) % 2 ^ w := by
  simp [fieldAt, Nat.shiftRight_eq_div_pow]

theorem frame_getD (f : Frame) (i : Nat) (h : i < 25) : f.toList.getD i 0 = f[i] := by
  simp [List.getD_eq_getElem?_getD, h]

/-- Byte `m` of the payload is frame byte `1 + m` (R51). -/
theorem payload_bytes_getD (f : Frame) (m : Nat) (h : m < 22) :
    ((f.toList.drop 1).take 22).getD m 0 = f.toList.getD (1 + m) 0 := by
  simp only [List.getD_eq_getElem?_getD, List.getElem?_take, List.getElem?_drop, if_pos h]

theorem payload_lt (f : Frame) : payload f < 2 ^ 176 := by
  simpa [payload] using packFields_lt 8 ((f.toList.drop 1).take 22)

/-- Payload bit `p` is bit `p mod 8` of frame byte `1 + p/8` (R51). -/
theorem payload_testBit (f : Frame) (p : Nat) (hp : p < 176) :
    (payload f).testBit p = (f.toList.getD (1 + p / 8) 0).getLsbD (p % 8) := by
  rw [payload, packFields_testBit 8 (by omega), payload_bytes_getD _ _ (by omega)]

@[simp] theorem decodeFrame_ch_getElem (f : Frame) (k : Nat) (h : k < 16) :
    (decodeFrame f).ch[k] = fieldAt 11 (payload f) k := by
  simp [decodeFrame]

/-- The bytes of an encoded frame (R133). -/
theorem encodeFrame_getElem (c : ChannelSet) (i : Nat) (h : i < 25) :
    (encodeFrame c)[i] =
      if i = 0 then startMark
      else if i ≤ 22 then fieldAt 8 (packFields 11 c.ch.toList) (i - 1)
      else if i = 23 then flagByte c
      else endMark := by
  simp [encodeFrame]

theorem flagBits (a b c d : Bool) :
    let x : Byte :=
      (bit a).setWidth 8 ||| (bit b).setWidth 8 <<< 1 ||| (bit c).setWidth 8 <<< 2 ||| (bit d).setWidth 8 <<< 3
    x.getLsbD 0 = a ∧ x.getLsbD 1 = b ∧ x.getLsbD 2 = c ∧ x.getLsbD 3 = d ∧ x.extractLsb' 4 4 = 0 := by
  revert a b c d
  decide

/-- The bits of the flag byte ENCODE writes (R73, R133). -/
theorem flagByte_bits (c : ChannelSet) :
    (flagByte c).getLsbD 0 = c.d17 ∧ (flagByte c).getLsbD 1 = c.d18 ∧ (flagByte c).getLsbD 2 = c.status.lostBit ∧
      (flagByte c).getLsbD 3 = c.status.fsBit ∧ (flagByte c).extractLsb' 4 4 = 0 :=
  flagBits _ _ _ _

end Sys2Proof.Machine
end

