-- ==== Sys2Proof/Laws/State.lean ====
section
/-! SUPPORT. One lemma per field per state update, true by rfl and tagged @[simp]: no later proof unfolds a record
update. -/

namespace Sys2Proof.Machine

/-! `signal` -/

@[simp] theorem State.signal_cfg (e : Event) (s : State) : (s.signal e).cfg = s.cfg := rfl
@[simp] theorem State.signal_asmCnt (e : Event) (s : State) : (s.signal e).asmCnt = s.asmCnt := rfl
@[simp] theorem State.signal_stage (e : Event) (s : State) : (s.signal e).stage = s.stage := rfl
@[simp] theorem State.signal_frame (e : Event) (s : State) : (s.signal e).frame = s.frame := rfl
@[simp] theorem State.signal_frameReady (e : Event) (s : State) : (s.signal e).frameReady = s.frameReady := rfl
@[simp] theorem State.signal_desyncCount (e : Event) (s : State) : (s.signal e).desyncCount = s.desyncCount := rfl
@[simp] theorem State.signal_lastCause (e : Event) (s : State) : (s.signal e).lastCause = s.lastCause := rfl
@[simp] theorem State.signal_badCmd (e : Event) (s : State) : (s.signal e).badCmd = s.badCmd := rfl
@[simp] theorem State.signal_cs (e : Event) (s : State) : (s.signal e).cs = s.cs := rfl
@[simp] theorem State.signal_txFrame (e : Event) (s : State) : (s.signal e).txFrame = s.txFrame := rfl
@[simp] theorem State.signal_trk (e : Event) (s : State) : (s.signal e).trk = s.trk := rfl
@[simp] theorem State.signal_tri (e : Event) (s : State) : (s.signal e).tri = s.tri := rfl
@[simp] theorem State.signal_bin (e : Event) (s : State) : (s.signal e).bin = s.bin := rfl
@[simp] theorem State.signal_evt (e : Event) (s : State) : (s.signal e).evt = some e := rfl
@[simp] theorem State.signal_port (e : Event) (s : State) : (s.signal e).port = s.port := rfl

/-! `raiseDesync` -/

@[simp] theorem State.raiseDesync_cfg (c : Cause) (s : State) : (s.raiseDesync c).cfg = s.cfg := rfl
@[simp] theorem State.raiseDesync_asmCnt (c : Cause) (s : State) : (s.raiseDesync c).asmCnt = s.asmCnt := rfl
@[simp] theorem State.raiseDesync_stage (c : Cause) (s : State) : (s.raiseDesync c).stage = s.stage := rfl
@[simp] theorem State.raiseDesync_frame (c : Cause) (s : State) : (s.raiseDesync c).frame = s.frame := rfl
@[simp] theorem State.raiseDesync_frameReady (c : Cause) (s : State) : (s.raiseDesync c).frameReady = s.frameReady := rfl
@[simp] theorem State.raiseDesync_desyncCount (c : Cause) (s : State) : (s.raiseDesync c).desyncCount = satIncr s.desyncCount := rfl
@[simp] theorem State.raiseDesync_lastCause (c : Cause) (s : State) : (s.raiseDesync c).lastCause = c := rfl
@[simp] theorem State.raiseDesync_badCmd (c : Cause) (s : State) : (s.raiseDesync c).badCmd = s.badCmd := rfl
@[simp] theorem State.raiseDesync_cs (c : Cause) (s : State) : (s.raiseDesync c).cs = s.cs := rfl
@[simp] theorem State.raiseDesync_txFrame (c : Cause) (s : State) : (s.raiseDesync c).txFrame = s.txFrame := rfl
@[simp] theorem State.raiseDesync_trk (c : Cause) (s : State) : (s.raiseDesync c).trk = s.trk := rfl
@[simp] theorem State.raiseDesync_tri (c : Cause) (s : State) : (s.raiseDesync c).tri = s.tri := rfl
@[simp] theorem State.raiseDesync_bin (c : Cause) (s : State) : (s.raiseDesync c).bin = s.bin := rfl
@[simp] theorem State.raiseDesync_evt (c : Cause) (s : State) : (s.raiseDesync c).evt = some (.desync c) := rfl
@[simp] theorem State.raiseDesync_port (c : Cause) (s : State) : (s.raiseDesync c).port = s.port := rfl

/-! `raiseBadCmd` -/

@[simp] theorem State.raiseBadCmd_cfg (s : State) : s.raiseBadCmd.cfg = s.cfg := rfl
@[simp] theorem State.raiseBadCmd_asmCnt (s : State) : s.raiseBadCmd.asmCnt = s.asmCnt := rfl
@[simp] theorem State.raiseBadCmd_stage (s : State) : s.raiseBadCmd.stage = s.stage := rfl
@[simp] theorem State.raiseBadCmd_frame (s : State) : s.raiseBadCmd.frame = s.frame := rfl
@[simp] theorem State.raiseBadCmd_frameReady (s : State) : s.raiseBadCmd.frameReady = s.frameReady := rfl
@[simp] theorem State.raiseBadCmd_desyncCount (s : State) : s.raiseBadCmd.desyncCount = s.desyncCount := rfl
@[simp] theorem State.raiseBadCmd_lastCause (s : State) : s.raiseBadCmd.lastCause = s.lastCause := rfl
@[simp] theorem State.raiseBadCmd_badCmd (s : State) : s.raiseBadCmd.badCmd = true := rfl
@[simp] theorem State.raiseBadCmd_cs (s : State) : s.raiseBadCmd.cs = s.cs := rfl
@[simp] theorem State.raiseBadCmd_txFrame (s : State) : s.raiseBadCmd.txFrame = s.txFrame := rfl
@[simp] theorem State.raiseBadCmd_trk (s : State) : s.raiseBadCmd.trk = s.trk := rfl
@[simp] theorem State.raiseBadCmd_tri (s : State) : s.raiseBadCmd.tri = s.tri := rfl
@[simp] theorem State.raiseBadCmd_bin (s : State) : s.raiseBadCmd.bin = s.bin := rfl
@[simp] theorem State.raiseBadCmd_evt (s : State) : s.raiseBadCmd.evt = some .badCmd := rfl
@[simp] theorem State.raiseBadCmd_port (s : State) : s.raiseBadCmd.port = s.port := rfl

/-! `stagePut` -/

@[simp] theorem State.stagePut_cfg (i n : Fin 25) (b : Byte) (s : State) : (s.stagePut i b n).cfg = s.cfg := rfl
@[simp] theorem State.stagePut_asmCnt (i n : Fin 25) (b : Byte) (s : State) : (s.stagePut i b n).asmCnt = n := rfl
@[simp] theorem State.stagePut_stage (i n : Fin 25) (b : Byte) (s : State) : (s.stagePut i b n).stage = s.stage.set i.val b := rfl
@[simp] theorem State.stagePut_frame (i n : Fin 25) (b : Byte) (s : State) : (s.stagePut i b n).frame = s.frame := rfl
@[simp] theorem State.stagePut_frameReady (i n : Fin 25) (b : Byte) (s : State) : (s.stagePut i b n).frameReady = s.frameReady := rfl
@[simp] theorem State.stagePut_desyncCount (i n : Fin 25) (b : Byte) (s : State) : (s.stagePut i b n).desyncCount = s.desyncCount := rfl
@[simp] theorem State.stagePut_lastCause (i n : Fin 25) (b : Byte) (s : State) : (s.stagePut i b n).lastCause = s.lastCause := rfl
@[simp] theorem State.stagePut_badCmd (i n : Fin 25) (b : Byte) (s : State) : (s.stagePut i b n).badCmd = s.badCmd := rfl
@[simp] theorem State.stagePut_cs (i n : Fin 25) (b : Byte) (s : State) : (s.stagePut i b n).cs = s.cs := rfl
@[simp] theorem State.stagePut_txFrame (i n : Fin 25) (b : Byte) (s : State) : (s.stagePut i b n).txFrame = s.txFrame := rfl
@[simp] theorem State.stagePut_trk (i n : Fin 25) (b : Byte) (s : State) : (s.stagePut i b n).trk = s.trk := rfl
@[simp] theorem State.stagePut_tri (i n : Fin 25) (b : Byte) (s : State) : (s.stagePut i b n).tri = s.tri := rfl
@[simp] theorem State.stagePut_bin (i n : Fin 25) (b : Byte) (s : State) : (s.stagePut i b n).bin = s.bin := rfl
@[simp] theorem State.stagePut_evt (i n : Fin 25) (b : Byte) (s : State) : (s.stagePut i b n).evt = s.evt := rfl
@[simp] theorem State.stagePut_port (i n : Fin 25) (b : Byte) (s : State) : (s.stagePut i b n).port = s.port := rfl

/-! `commitFrame` -/

@[simp] theorem State.commitFrame_cfg (b : Byte) (s : State) : (s.commitFrame b).cfg = s.cfg := rfl
@[simp] theorem State.commitFrame_asmCnt (b : Byte) (s : State) : (s.commitFrame b).asmCnt = s.asmCnt := rfl
@[simp] theorem State.commitFrame_stage (b : Byte) (s : State) : (s.commitFrame b).stage = s.stage := rfl
@[simp] theorem State.commitFrame_frame (b : Byte) (s : State) : (s.commitFrame b).frame = s.stage.set 24 b := rfl
@[simp] theorem State.commitFrame_frameReady (b : Byte) (s : State) : (s.commitFrame b).frameReady = true := rfl
@[simp] theorem State.commitFrame_desyncCount (b : Byte) (s : State) : (s.commitFrame b).desyncCount = s.desyncCount := rfl
@[simp] theorem State.commitFrame_lastCause (b : Byte) (s : State) : (s.commitFrame b).lastCause = s.lastCause := rfl
@[simp] theorem State.commitFrame_badCmd (b : Byte) (s : State) : (s.commitFrame b).badCmd = s.badCmd := rfl
@[simp] theorem State.commitFrame_cs (b : Byte) (s : State) : (s.commitFrame b).cs = s.cs := rfl
@[simp] theorem State.commitFrame_txFrame (b : Byte) (s : State) : (s.commitFrame b).txFrame = s.txFrame := rfl
@[simp] theorem State.commitFrame_trk (b : Byte) (s : State) : (s.commitFrame b).trk = s.trk := rfl
@[simp] theorem State.commitFrame_tri (b : Byte) (s : State) : (s.commitFrame b).tri = s.tri := rfl
@[simp] theorem State.commitFrame_bin (b : Byte) (s : State) : (s.commitFrame b).bin = s.bin := rfl
@[simp] theorem State.commitFrame_evt (b : Byte) (s : State) : (s.commitFrame b).evt = some .commit := rfl
@[simp] theorem State.commitFrame_port (b : Byte) (s : State) : (s.commitFrame b).port = s.port := rfl

/-! `updateTracker` -/

@[simp] theorem State.updateTracker_cfg (k : Nat) (f : Tracker → Tracker) (s : State) : (s.updateTracker k f).cfg = s.cfg := rfl
@[simp] theorem State.updateTracker_asmCnt (k : Nat) (f : Tracker → Tracker) (s : State) : (s.updateTracker k f).asmCnt = s.asmCnt := rfl
@[simp] theorem State.updateTracker_stage (k : Nat) (f : Tracker → Tracker) (s : State) : (s.updateTracker k f).stage = s.stage := rfl
@[simp] theorem State.updateTracker_frame (k : Nat) (f : Tracker → Tracker) (s : State) : (s.updateTracker k f).frame = s.frame := rfl
@[simp] theorem State.updateTracker_frameReady (k : Nat) (f : Tracker → Tracker) (s : State) : (s.updateTracker k f).frameReady = s.frameReady := rfl
@[simp] theorem State.updateTracker_desyncCount (k : Nat) (f : Tracker → Tracker) (s : State) : (s.updateTracker k f).desyncCount = s.desyncCount := rfl
@[simp] theorem State.updateTracker_lastCause (k : Nat) (f : Tracker → Tracker) (s : State) : (s.updateTracker k f).lastCause = s.lastCause := rfl
@[simp] theorem State.updateTracker_badCmd (k : Nat) (f : Tracker → Tracker) (s : State) : (s.updateTracker k f).badCmd = s.badCmd := rfl
@[simp] theorem State.updateTracker_cs (k : Nat) (f : Tracker → Tracker) (s : State) : (s.updateTracker k f).cs = s.cs := rfl
@[simp] theorem State.updateTracker_txFrame (k : Nat) (f : Tracker → Tracker) (s : State) : (s.updateTracker k f).txFrame = s.txFrame := rfl
@[simp] theorem State.updateTracker_trk (k : Nat) (f : Tracker → Tracker) (s : State) : (s.updateTracker k f).trk = s.trk.modify k f := rfl
@[simp] theorem State.updateTracker_tri (k : Nat) (f : Tracker → Tracker) (s : State) : (s.updateTracker k f).tri = s.tri := rfl
@[simp] theorem State.updateTracker_bin (k : Nat) (f : Tracker → Tracker) (s : State) : (s.updateTracker k f).bin = s.bin := rfl
@[simp] theorem State.updateTracker_evt (k : Nat) (f : Tracker → Tracker) (s : State) : (s.updateTracker k f).evt = s.evt := rfl
@[simp] theorem State.updateTracker_port (k : Nat) (f : Tracker → Tracker) (s : State) : (s.updateTracker k f).port = s.port := rfl

/-! `updateTri` -/

@[simp] theorem State.updateTri_cfg (k : Nat) (f : TriUnit → TriUnit) (s : State) : (s.updateTri k f).cfg = s.cfg := rfl
@[simp] theorem State.updateTri_asmCnt (k : Nat) (f : TriUnit → TriUnit) (s : State) : (s.updateTri k f).asmCnt = s.asmCnt := rfl
@[simp] theorem State.updateTri_stage (k : Nat) (f : TriUnit → TriUnit) (s : State) : (s.updateTri k f).stage = s.stage := rfl
@[simp] theorem State.updateTri_frame (k : Nat) (f : TriUnit → TriUnit) (s : State) : (s.updateTri k f).frame = s.frame := rfl
@[simp] theorem State.updateTri_frameReady (k : Nat) (f : TriUnit → TriUnit) (s : State) : (s.updateTri k f).frameReady = s.frameReady := rfl
@[simp] theorem State.updateTri_desyncCount (k : Nat) (f : TriUnit → TriUnit) (s : State) : (s.updateTri k f).desyncCount = s.desyncCount := rfl
@[simp] theorem State.updateTri_lastCause (k : Nat) (f : TriUnit → TriUnit) (s : State) : (s.updateTri k f).lastCause = s.lastCause := rfl
@[simp] theorem State.updateTri_badCmd (k : Nat) (f : TriUnit → TriUnit) (s : State) : (s.updateTri k f).badCmd = s.badCmd := rfl
@[simp] theorem State.updateTri_cs (k : Nat) (f : TriUnit → TriUnit) (s : State) : (s.updateTri k f).cs = s.cs := rfl
@[simp] theorem State.updateTri_txFrame (k : Nat) (f : TriUnit → TriUnit) (s : State) : (s.updateTri k f).txFrame = s.txFrame := rfl
@[simp] theorem State.updateTri_trk (k : Nat) (f : TriUnit → TriUnit) (s : State) : (s.updateTri k f).trk = s.trk := rfl
@[simp] theorem State.updateTri_tri (k : Nat) (f : TriUnit → TriUnit) (s : State) : (s.updateTri k f).tri = s.tri.modify k f := rfl
@[simp] theorem State.updateTri_bin (k : Nat) (f : TriUnit → TriUnit) (s : State) : (s.updateTri k f).bin = s.bin := rfl
@[simp] theorem State.updateTri_evt (k : Nat) (f : TriUnit → TriUnit) (s : State) : (s.updateTri k f).evt = s.evt := rfl
@[simp] theorem State.updateTri_port (k : Nat) (f : TriUnit → TriUnit) (s : State) : (s.updateTri k f).port = s.port := rfl

/-! `updateBin` -/

@[simp] theorem State.updateBin_cfg (k : Nat) (f : BinUnit → BinUnit) (s : State) : (s.updateBin k f).cfg = s.cfg := rfl
@[simp] theorem State.updateBin_asmCnt (k : Nat) (f : BinUnit → BinUnit) (s : State) : (s.updateBin k f).asmCnt = s.asmCnt := rfl
@[simp] theorem State.updateBin_stage (k : Nat) (f : BinUnit → BinUnit) (s : State) : (s.updateBin k f).stage = s.stage := rfl
@[simp] theorem State.updateBin_frame (k : Nat) (f : BinUnit → BinUnit) (s : State) : (s.updateBin k f).frame = s.frame := rfl
@[simp] theorem State.updateBin_frameReady (k : Nat) (f : BinUnit → BinUnit) (s : State) : (s.updateBin k f).frameReady = s.frameReady := rfl
@[simp] theorem State.updateBin_desyncCount (k : Nat) (f : BinUnit → BinUnit) (s : State) : (s.updateBin k f).desyncCount = s.desyncCount := rfl
@[simp] theorem State.updateBin_lastCause (k : Nat) (f : BinUnit → BinUnit) (s : State) : (s.updateBin k f).lastCause = s.lastCause := rfl
@[simp] theorem State.updateBin_badCmd (k : Nat) (f : BinUnit → BinUnit) (s : State) : (s.updateBin k f).badCmd = s.badCmd := rfl
@[simp] theorem State.updateBin_cs (k : Nat) (f : BinUnit → BinUnit) (s : State) : (s.updateBin k f).cs = s.cs := rfl
@[simp] theorem State.updateBin_txFrame (k : Nat) (f : BinUnit → BinUnit) (s : State) : (s.updateBin k f).txFrame = s.txFrame := rfl
@[simp] theorem State.updateBin_trk (k : Nat) (f : BinUnit → BinUnit) (s : State) : (s.updateBin k f).trk = s.trk := rfl
@[simp] theorem State.updateBin_tri (k : Nat) (f : BinUnit → BinUnit) (s : State) : (s.updateBin k f).tri = s.tri := rfl
@[simp] theorem State.updateBin_bin (k : Nat) (f : BinUnit → BinUnit) (s : State) : (s.updateBin k f).bin = s.bin.modify k f := rfl
@[simp] theorem State.updateBin_evt (k : Nat) (f : BinUnit → BinUnit) (s : State) : (s.updateBin k f).evt = s.evt := rfl
@[simp] theorem State.updateBin_port (k : Nat) (f : BinUnit → BinUnit) (s : State) : (s.updateBin k f).port = s.port := rfl

/-! `beginCycle` -/

@[simp] theorem State.beginCycle_cfg (s : State) : s.beginCycle.cfg = s.cfg := rfl
@[simp] theorem State.beginCycle_asmCnt (s : State) : s.beginCycle.asmCnt = s.asmCnt := rfl
@[simp] theorem State.beginCycle_stage (s : State) : s.beginCycle.stage = s.stage := rfl
@[simp] theorem State.beginCycle_frame (s : State) : s.beginCycle.frame = s.frame := rfl
@[simp] theorem State.beginCycle_frameReady (s : State) : s.beginCycle.frameReady = s.frameReady := rfl
@[simp] theorem State.beginCycle_desyncCount (s : State) : s.beginCycle.desyncCount = s.desyncCount := rfl
@[simp] theorem State.beginCycle_lastCause (s : State) : s.beginCycle.lastCause = s.lastCause := rfl
@[simp] theorem State.beginCycle_badCmd (s : State) : s.beginCycle.badCmd = s.badCmd := rfl
@[simp] theorem State.beginCycle_cs (s : State) : s.beginCycle.cs = s.cs := rfl
@[simp] theorem State.beginCycle_txFrame (s : State) : s.beginCycle.txFrame = s.txFrame := rfl
@[simp] theorem State.beginCycle_trk (s : State) : s.beginCycle.trk = s.trk := rfl
@[simp] theorem State.beginCycle_tri (s : State) : s.beginCycle.tri = s.tri := rfl
@[simp] theorem State.beginCycle_bin (s : State) : s.beginCycle.bin = s.bin := rfl
@[simp] theorem State.beginCycle_evt (s : State) : s.beginCycle.evt = none := rfl
@[simp] theorem State.beginCycle_port (s : State) : s.beginCycle.port = s.port := rfl

/-! `endCycle` -/

@[simp] theorem State.endCycle_cfg (s : State) : s.endCycle.cfg = s.cfg := rfl
@[simp] theorem State.endCycle_asmCnt (s : State) : s.endCycle.asmCnt = s.asmCnt := rfl
@[simp] theorem State.endCycle_stage (s : State) : s.endCycle.stage = s.stage := rfl
@[simp] theorem State.endCycle_frame (s : State) : s.endCycle.frame = s.frame := rfl
@[simp] theorem State.endCycle_frameReady (s : State) : s.endCycle.frameReady = s.frameReady := rfl
@[simp] theorem State.endCycle_desyncCount (s : State) : s.endCycle.desyncCount = s.desyncCount := rfl
@[simp] theorem State.endCycle_lastCause (s : State) : s.endCycle.lastCause = s.lastCause := rfl
@[simp] theorem State.endCycle_badCmd (s : State) : s.endCycle.badCmd = s.badCmd := rfl
@[simp] theorem State.endCycle_cs (s : State) : s.endCycle.cs = s.cs := rfl
@[simp] theorem State.endCycle_txFrame (s : State) : s.endCycle.txFrame = s.txFrame := rfl
@[simp] theorem State.endCycle_trk (s : State) : s.endCycle.trk = s.trk := rfl
@[simp] theorem State.endCycle_tri (s : State) : s.endCycle.tri = s.tri := rfl
@[simp] theorem State.endCycle_bin (s : State) : s.endCycle.bin = s.bin := rfl
@[simp] theorem State.endCycle_evt (s : State) : s.endCycle.evt = s.evt := rfl
@[simp] theorem State.endCycle_port (s : State) : s.endCycle.port = s.port.tail := rfl

/-! `withCommand` -/

@[simp] theorem State.withCommand_cfg (w : CmdWord) (s : State) : (s.withCommand w).cfg = s.cfg := rfl
@[simp] theorem State.withCommand_asmCnt (w : CmdWord) (s : State) : (s.withCommand w).asmCnt = s.asmCnt := rfl
@[simp] theorem State.withCommand_stage (w : CmdWord) (s : State) : (s.withCommand w).stage = s.stage := rfl
@[simp] theorem State.withCommand_frame (w : CmdWord) (s : State) : (s.withCommand w).frame = s.frame := rfl
@[simp] theorem State.withCommand_frameReady (w : CmdWord) (s : State) : (s.withCommand w).frameReady = s.frameReady := rfl
@[simp] theorem State.withCommand_desyncCount (w : CmdWord) (s : State) : (s.withCommand w).desyncCount = s.desyncCount := rfl
@[simp] theorem State.withCommand_lastCause (w : CmdWord) (s : State) : (s.withCommand w).lastCause = s.lastCause := rfl
@[simp] theorem State.withCommand_badCmd (w : CmdWord) (s : State) : (s.withCommand w).badCmd = s.badCmd := rfl
@[simp] theorem State.withCommand_cs (w : CmdWord) (s : State) : (s.withCommand w).cs = s.cs := rfl
@[simp] theorem State.withCommand_txFrame (w : CmdWord) (s : State) : (s.withCommand w).txFrame = s.txFrame := rfl
@[simp] theorem State.withCommand_trk (w : CmdWord) (s : State) : (s.withCommand w).trk = s.trk := rfl
@[simp] theorem State.withCommand_tri (w : CmdWord) (s : State) : (s.withCommand w).tri = s.tri := rfl
@[simp] theorem State.withCommand_bin (w : CmdWord) (s : State) : (s.withCommand w).bin = s.bin := rfl
@[simp] theorem State.withCommand_evt (w : CmdWord) (s : State) : (s.withCommand w).evt = s.evt := rfl
@[simp] theorem State.withCommand_port (w : CmdWord) (s : State) : (s.withCommand w).port = ⟨false, true, w, s.pins.enc⟩ :: s.port.tail := rfl

/-! `issue` -/

@[simp] theorem State.issue_cfg (ops : List OpText) (s : State) : (s.issue ops).cfg = s.cfg := rfl
@[simp] theorem State.issue_asmCnt (ops : List OpText) (s : State) : (s.issue ops).asmCnt = s.asmCnt := rfl
@[simp] theorem State.issue_stage (ops : List OpText) (s : State) : (s.issue ops).stage = s.stage := rfl
@[simp] theorem State.issue_frame (ops : List OpText) (s : State) : (s.issue ops).frame = s.frame := rfl
@[simp] theorem State.issue_frameReady (ops : List OpText) (s : State) : (s.issue ops).frameReady = s.frameReady := rfl
@[simp] theorem State.issue_desyncCount (ops : List OpText) (s : State) : (s.issue ops).desyncCount = s.desyncCount := rfl
@[simp] theorem State.issue_lastCause (ops : List OpText) (s : State) : (s.issue ops).lastCause = s.lastCause := rfl
@[simp] theorem State.issue_badCmd (ops : List OpText) (s : State) : (s.issue ops).badCmd = s.badCmd := rfl
@[simp] theorem State.issue_cs (ops : List OpText) (s : State) : (s.issue ops).cs = s.cs := rfl
@[simp] theorem State.issue_txFrame (ops : List OpText) (s : State) : (s.issue ops).txFrame = s.txFrame := rfl
@[simp] theorem State.issue_trk (ops : List OpText) (s : State) : (s.issue ops).trk = s.trk := rfl
@[simp] theorem State.issue_tri (ops : List OpText) (s : State) : (s.issue ops).tri = s.tri := rfl
@[simp] theorem State.issue_bin (ops : List OpText) (s : State) : (s.issue ops).bin = s.bin := rfl
@[simp] theorem State.issue_evt (ops : List OpText) (s : State) : (s.issue ops).evt = s.evt := rfl
@[simp] theorem State.issue_port (ops : List OpText) (s : State) : (s.issue ops).port = ops.map OpText.cycle ++ s.port := rfl

/-! `resetCycle` -/

@[simp] theorem State.resetCycle_cfg (s : State) : s.resetCycle.cfg = s.cfg := rfl
@[simp] theorem State.resetCycle_asmCnt (s : State) : s.resetCycle.asmCnt = 0 := rfl
@[simp] theorem State.resetCycle_stage (s : State) : s.resetCycle.stage = Frame.zero := rfl
@[simp] theorem State.resetCycle_frame (s : State) : s.resetCycle.frame = Frame.zero := rfl
@[simp] theorem State.resetCycle_frameReady (s : State) : s.resetCycle.frameReady = false := rfl
@[simp] theorem State.resetCycle_desyncCount (s : State) : s.resetCycle.desyncCount = 0 := rfl
@[simp] theorem State.resetCycle_lastCause (s : State) : s.resetCycle.lastCause = .noDesync := rfl
@[simp] theorem State.resetCycle_badCmd (s : State) : s.resetCycle.badCmd = false := rfl
@[simp] theorem State.resetCycle_cs (s : State) : s.resetCycle.cs = ChannelSet.reset := rfl
@[simp] theorem State.resetCycle_txFrame (s : State) : s.resetCycle.txFrame = Frame.zero := rfl
@[simp] theorem State.resetCycle_trk (s : State) : s.resetCycle.trk = List.replicate s.cfg.nt (Tracker.reset s.cfg) := rfl
@[simp] theorem State.resetCycle_tri (s : State) : s.resetCycle.tri = List.replicate s.cfg.ns TriUnit.reset := rfl
@[simp] theorem State.resetCycle_bin (s : State) : s.resetCycle.bin = List.replicate s.cfg.nb BinUnit.reset := rfl
@[simp] theorem State.resetCycle_evt (s : State) : s.resetCycle.evt = none := rfl
@[simp] theorem State.resetCycle_port (s : State) : s.resetCycle.port = s.port.tail := rfl

end Sys2Proof.Machine
end

