-- ==== Sys2Proof/Laws/Ops.lean ====
section
/-! SUPPORT. What the shared operations over the registers and one cycle can do, said once. -/

namespace Sys2Proof.Machine

/-- Two next states that are one outcome are one state. -/
theorem next_inj {a b : State} (h : (Host.Outcome.next a : Host.Outcome State Fault Refusal) = .next b) : b = a := by
  injection h with h
  exact h.symm

/-- The saturating increment of DESYNC_COUNT (R221). -/
theorem satIncr_toNat (x : BitVec 16) : (satIncr x).toNat = min (x.toNat + 1) 0xFFFF := by
  simp [satIncr]

/-- After a desync the counter is not 0 (R26, R27). -/
theorem satIncr_ne_zero (x : BitVec 16) : satIncr x ≠ 0 := by
  intro h
  have := congrArg BitVec.toNat h
  rw [satIncr_toNat] at this
  simp at this

/-- What stands on the input ports depends on the port list alone. -/
theorem State.pins_congr {s t : State} (h : t.port = s.port) : t.pins = s.pins := by
  simp only [State.pins, h]

/-- Rewriting one element of a list is setting it. -/
theorem modify_eq_set {α : Type} {l : List α} {i : Nat} {a : α} (f : α → α) (h : l[i]? = some a) :
    l.modify i f = l.set i (f a) := by
  apply List.ext_getElem?
  intro j
  have hi := (List.getElem?_eq_some_iff.1 h).1
  rw [List.getElem?_modify, List.getElem?_set]
  by_cases hij : i = j
  · subst hij
    rw [h]
    simp [hi]
  · simp [hij]

/-- An element of a list with one element rewritten is an old one or the rewritten one. -/
theorem mem_modify {α : Type} {l : List α} {i : Nat} {f : α → α} {x : α} (h : x ∈ l.modify i f) :
    x ∈ l ∨ ∃ a ∈ l, x = f a := by
  obtain ⟨j, hj⟩ := List.mem_iff_getElem?.1 h
  rw [List.getElem?_modify] at hj
  obtain ⟨a, ha, hx⟩ := Option.map_eq_some_iff.1 hj
  split at hx
  · exact .inr ⟨a, List.mem_of_getElem? ha, hx.symm⟩
  · exact .inl (hx ▸ List.mem_of_getElem? ha)

/-- STAGE[0] after storing a byte elsewhere (R22). -/
theorem stage_set_getElem_zero (f : Frame) (b : Byte) (i : Fin 25) (hi : i ≠ 0) : (f.set i.val b)[0] = f[0] := by
  rw [Vector.getElem_set_ne]
  intro h
  exact hi (Fin.ext h)

/-- A configuration is legal exactly when the constraints of R7 and R190 hold. -/
theorem config_ok_iff (c : Config) : c.ok = true ↔
    (1 ≤ c.n ∧ c.n ≤ 1024) ∧ (1 ≤ c.nt ∧ c.nt ≤ 16) ∧ c.tri.length ≤ 16 ∧ c.bin.length ≤ 16 ∧ (1 ≤ c.k ∧ c.k ≤ 255) ∧
      (c.releasedLevel < c.activeLevel ∧ c.activeLevel ≤ 2047) ∧
      (∀ t ∈ c.tri, t.downEnter < t.upEnter ∧ t.upExit < t.upEnter ∧ t.downEnter < t.downExit) ∧
      (∀ t ∈ c.bin, t.btnExit < t.btnEnter) := by
  simp [Config.ok, TriThresholds.ok, BinThresholds.ok, List.all_eq_true, and_assoc]

/-- A cycle that ends in a next state was a reset cycle, a cycle without a command, or one operation. -/
theorem runCycle_next_cases {run : Instr → State → Host.Outcome State Fault Refusal} {s t : State}
    (h : runCycle run s = .next t) :
    s.cfg.ok = true ∧
      (s.pins.rst = true ∧ t = s.resetCycle ∨
        s.pins.rst = false ∧ s.pins.cmdValid = false ∧ t = s.beginCycle.endCycle ∨
        s.pins.rst = false ∧ s.pins.cmdValid = true ∧
          ∃ u, run (decodeWord s.pins.cmd) s.beginCycle = .next u ∧ t = u.endCycle) := by
  unfold runCycle State.accepted at h
  split at h
  case isFalse => cases h
  case isTrue hok =>
    refine ⟨hok, ?_⟩
    cases hr : s.pins.rst <;> cases hv : s.pins.cmdValid <;> simp only [hr, hv, if_true, Bool.false_eq_true, if_false] at h
    · exact .inr (.inl ⟨rfl, rfl, next_inj h⟩)
    · refine .inr (.inr ⟨rfl, rfl, ?_⟩)
      split at h <;> try cases h
      exact ⟨_, ‹_›, rfl⟩
    · exact .inl ⟨rfl, next_inj h⟩
    · exact .inl ⟨rfl, next_inj h⟩

end Sys2Proof.Machine
end

