-- ==== Sys2Proof/Laws/Exec.lean ====
section
/-! SUPPORT. What one operation can do, said once: `Effect i s t` lists every next state `t` of operation `i` from `s`,
with the condition it comes under, and `exec_effect` says that these are all. Proofs about `exec` split on it. -/

namespace Sys2Proof.Machine

/-- An operation with a UNIT at or above its instance count, or a reserved op code (R78, R224). -/
inductive IsBadCommand (c : Config) : Instr → Prop where
  | reserved (op : BitVec 4) : IsBadCommand c (.reserved op)
  | trackAdd (t : UnitIx) (v : Raw) (h : c.nt ≤ t.toNat) : IsBadCommand c (.trackAdd t v)
  | classifyTri (u : UnitIx) (v : Raw) (h : c.ns ≤ u.toNat) : IsBadCommand c (.classifyTri u v)
  | classifyBin (u : UnitIx) (v : Raw) (h : c.nb ≤ u.toNat) : IsBadCommand c (.classifyBin u v)

/-- The operations that, in state `s`, change nothing. -/
inductive IsIdle (s : State) : Instr → Prop where
  | nop : IsIdle s .nop
  | pushByte (b : Byte) (h : s.asmCnt = 0) (hb : b ≠ startMark) : IsIdle s (.pushByte b)
  | idleGap (h : s.asmCnt = 0) : IsIdle s .idleGap
  | decode (h : s.frameReady = false) : IsIdle s .decode

/-- Every effect an operation can have (R100 to R105, R134, R135, R161, R184, R186, R224). -/
inductive Effect : Instr → State → State → Prop where
  | idle {i s} (h : IsIdle s i) : Effect i s s
  | badCommand {i s} (h : IsBadCommand s.cfg i) : Effect i s s.raiseBadCmd
  | startByte {s} (h : s.asmCnt = 0) : Effect (.pushByte startMark) s (s.stagePut 0 startMark 1)
  | nextByte {b s} (n : Fin 25) (h : s.asmCnt ≠ 0) (hn : n.val = s.asmCnt.val + 1) :
      Effect (.pushByte b) s (s.stagePut s.asmCnt b n)
  | badEnd {b s} (h : s.asmCnt = 24) (hb : b ≠ endMark) :
      Effect (.pushByte b) s ((s.stagePut 24 b 0).raiseDesync .badEnd)
  | overrun {s} (h : s.asmCnt = 24) (hr : s.frameReady = true) :
      Effect (.pushByte endMark) s ((s.stagePut 24 endMark 0).raiseDesync .overrun)
  | commit {s} (h : s.asmCnt = 24) (hr : s.frameReady = false) :
      Effect (.pushByte endMark) s ((s.stagePut 24 endMark 0).commitFrame endMark)
  | gap {s} (h : s.asmCnt ≠ 0) : Effect .idleGap s (State.raiseDesync .gap { s with asmCnt := 0 })
  | decode {s} (h : s.frameReady = true) :
      Effect .decode s (State.signal .live { s with cs := decodeFrame s.frame, frameReady := false })
  | encode {s} : Effect .encode s (State.signal .encoded { s with txFrame := encodeFrame s.encOperand })
  | trackAdd {t v s} (h : t.toNat < s.cfg.nt) :
      Effect (.trackAdd t v) s (s.updateTracker t.toNat (Tracker.add s.cfg.n v))
  | classifyTri {u v s th} (h : s.cfg.tri[u.toNat]? = some th) :
      Effect (.classifyTri u v) s (s.updateTri u.toNat (TriUnit.sample s.cfg.k th (normVal v)))
  | classifyBin {u v s th} (h : s.cfg.bin[u.toNat]? = some th) :
      Effect (.classifyBin u v) s (s.updateBin u.toNat (BinUnit.sample s.cfg.k th (normVal v)))

theorem execPushByte_effect {b : Byte} {s t : State} (h : execPushByte b s = .next t) : Effect (.pushByte b) s t := by
  unfold execPushByte State.huntByte State.lastByte at h
  split at h
  case isTrue h0 =>
    have ht := next_inj h
    split at ht <;> subst ht
    case isTrue hb => subst hb; exact .startByte h0
    case isFalse hb => exact .idle (.pushByte b h0 hb)
  case isFalse h0 =>
    split at h
    case isTrue h23 => rw [next_inj h]; exact .nextByte _ h0 rfl
    case isFalse h23 =>
      have h24 : s.asmCnt = 24 := Fin.ext (by have := s.asmCnt.isLt; show s.asmCnt.val = 24; omega)
      have ht := next_inj h
      by_cases hb : b = endMark
      case neg => rw [if_pos hb] at ht; rw [ht]; exact .badEnd h24 hb
      case pos =>
        subst hb
        rw [if_neg (fun hn => hn rfl)] at ht
        cases hr : s.frameReady <;> simp only [hr, if_true, Bool.false_eq_true, if_false] at ht <;> rw [ht]
        · exact .commit h24 hr
        · exact .overrun h24 hr

theorem execIdleGap_effect {s t : State} (h : execIdleGap s = .next t) : Effect .idleGap s t := by
  unfold execIdleGap at h
  split at h <;> rw [next_inj h]
  case isTrue h0 => exact .gap h0
  case isFalse h0 => exact .idle (.idleGap (not_not.1 h0))

theorem execDecode_effect {s t : State} (h : execDecode s = .next t) : Effect .decode s t := by
  unfold execDecode at h
  split at h <;> rw [next_inj h]
  case isTrue hr => exact .decode hr
  case isFalse hr => exact .idle (.decode (Bool.eq_false_iff.2 hr))

theorem execTrackAdd_effect {u : UnitIx} {v : Raw} {s t : State} (h : execTrackAdd u v s = .next t) :
    Effect (.trackAdd u v) s t := by
  unfold execTrackAdd at h
  split at h <;> rw [next_inj h]
  case isTrue hu => exact .badCommand (.trackAdd u v hu)
  case isFalse hu => exact .trackAdd (not_le.1 hu)

theorem execClassifyTri_effect {u : UnitIx} {v : Raw} {s t : State} (h : execClassifyTri u v s = .next t) :
    Effect (.classifyTri u v) s t := by
  unfold execClassifyTri at h
  split at h <;> rw [next_inj h]
  case isTrue hu => exact .classifyTri (List.getElem?_eq_getElem hu)
  case isFalse hu => exact .badCommand (.classifyTri u v (not_lt.1 hu))

theorem execClassifyBin_effect {u : UnitIx} {v : Raw} {s t : State} (h : execClassifyBin u v s = .next t) :
    Effect (.classifyBin u v) s t := by
  unfold execClassifyBin at h
  split at h <;> rw [next_inj h]
  case isTrue hu => exact .classifyBin (List.getElem?_eq_getElem hu)
  case isFalse hu => exact .badCommand (.classifyBin u v (not_lt.1 hu))

/-- Every next state of an operation is one of its effects. -/
theorem exec_effect {i : Instr} {s t : State} (h : exec i s = .next t) : Effect i s t := by
  cases i with
  | nop => rw [next_inj h]; exact .idle .nop
  | pushByte b => exact execPushByte_effect h
  | idleGap => exact execIdleGap_effect h
  | decode => exact execDecode_effect h
  | encode => rw [next_inj h]; exact .encode
  | trackAdd u v => exact execTrackAdd_effect h
  | classifyTri u v => exact execClassifyTri_effect h
  | classifyBin u v => exact execClassifyBin_effect h
  | reserved op => rw [next_inj h]; exact .badCommand (.reserved op)

end Sys2Proof.Machine
end

