-- ==== Sys2Proof/Laws/Operands.lean ====
section
/-! SUPPORT. The normalized value as a quotient, and the bounds of the clamp. -/

namespace Sys2Proof.Machine

theorem clamp_bounds (v lo hi : Nat) (h : lo ≤ hi) : lo ≤ clamp v lo hi ∧ clamp v lo hi ≤ hi := by
  unfold clamp
  omega

/-- The normalized value, one quotient a side of the centre (R180). -/
theorem normVal_eq_div (v : Raw) :
    let c := clamp v.toNat clampLo clampHi
    normVal v = if c > center then ((c : Rat) - 992) / 808 else if c < center then ((c : Rat) - 992) / 818 else 0 := by
  simp only [normVal, center, halfUp, halfDn, Rat.mkRat_eq_div]
  push_cast
  rfl

end Sys2Proof.Machine
end

