-- ==== Sys2Proof/Laws/PerInstr.lean ====
section
/-! SUPPORT. Per-instruction lemmas. The family `OpField` says of every operation, as syntax, that the encoder puts its op
code of R76 where the decoder looks for it. -/

namespace Sys2Proof.Laws.OpField

/-- `cmd[3:0]` of the encoded word is the op code of the operation (R76). -/
def Statement (i : Instr) : Prop := opField (encodeWord i) = i.opcode

/-- The op field of a command word is the op code put there, whatever the other fields. -/
theorem opField_commandWord (op : BitVec 4) (u : UnitIx) (v : Raw) : opField (commandWord op u v) = op := by
  apply BitVec.eq_of_getLsbD_eq
  intro j hj
  simp [opField, commandWord, hj, show j < 32 by omega, show j < 8 by omega]

theorem nop : Statement .nop := opField_commandWord _ _ _
theorem pushByte (b : Byte) : Statement (.pushByte b) := opField_commandWord _ _ _
theorem idleGap : Statement .idleGap := opField_commandWord _ _ _
theorem decode : Statement .decode := opField_commandWord _ _ _
theorem encode : Statement .encode := opField_commandWord _ _ _
theorem trackAdd (t : UnitIx) (v : Raw) : Statement (.trackAdd t v) := opField_commandWord _ _ _
theorem classifyTri (u : UnitIx) (v : Raw) : Statement (.classifyTri u v) := opField_commandWord _ _ _
theorem classifyBin (u : UnitIx) (v : Raw) : Statement (.classifyBin u v) := opField_commandWord _ _ _
theorem reserved (op : BitVec 4) : Statement (.reserved op) := opField_commandWord _ _ _

end Sys2Proof.Laws.OpField
end

