-- ==== Sys2Proof/Laws/Runs.lean ====
section
/-! SUPPORT. Sequences of operations: appending, and what they push and add. -/

namespace Sys2Proof.Machine

/-- A sequence runs its second part from where its first part ends. -/
theorem execAll_append (a b : List Instr) (s : State) :
    execAll (a ++ b) s =
      match execAll a s with
      | .next t => execAll b t
      | .fault f => .fault f
      | .refused r => .refused r := by
  induction a generalizing s with
  | nil => rfl
  | cons i a ih =>
    simp only [List.cons_append, execAll]
    cases exec i s with
    | next t => exact ih t
    | fault f => rfl
    | refused r => rfl

theorem pushedBytes_append (a b : List Instr) : pushedBytes (a ++ b) = pushedBytes a ++ pushedBytes b := by
  simp [pushedBytes]

theorem addedSamples_append (t : Nat) (a b : List Instr) :
    addedSamples t (a ++ b) = addedSamples t a ++ addedSamples t b := by
  simp [addedSamples]

end Sys2Proof.Machine
end

