-- ==== Sys2Proof/Laws/Units.lean ====
section
/-! SUPPORT. What one sample does to a tracker and to a classifier, and that it keeps the unit's invariant. -/

namespace Sys2Proof.Machine

/-- The slots of a window from the oldest sample to the newest, for a pointer inside the window (R34). -/
def Tracker.byAge (tr : Tracker) : List Raw := tr.win.drop tr.wp ++ tr.win.take tr.wp

/-- Adding a sample drops the oldest and appends the new one (R160, R161). -/
theorem Tracker.byAge_add (n : Nat) (v : Raw) (tr : Tracker) (hl : tr.win.length = n) (hw : tr.wp < n) :
    (tr.add n v).byAge = tr.byAge.drop 1 ++ [v] := by
  unfold Tracker.byAge Tracker.add
  by_cases h : tr.wp + 1 = n
  · simp only [h, Nat.mod_self, List.drop_zero, List.take_zero, List.append_nil]
    rw [List.set_eq_take_append_cons_drop, if_pos (by omega), List.drop_eq_nil_of_le (by omega),
      List.drop_append_of_le_length (by simp; omega), List.drop_drop, List.drop_eq_nil_of_le (by omega)]
    simp
  · simp only [Nat.mod_eq_of_lt (show tr.wp + 1 < n by omega)]
    rw [List.drop_append_of_le_length (by simp; omega), List.drop_drop, List.drop_set_of_lt (by omega),
      List.take_add_one, List.take_set_of_le (by omega)]
    simp [hl, hw]

theorem Tracker.byAge_perm (tr : Tracker) : tr.byAge.Perm tr.win :=
  List.perm_append_comm.trans (by rw [List.take_append_drop])

theorem Tracker.add_inv (c : Config) (hn : 1 ≤ c.n) (v : Raw) (tr : Tracker) (h : tr.inv c) : (tr.add c.n v).inv c :=
  ⟨by simp [Tracker.add, h.1], Nat.mod_lt _ hn⟩

theorem triCandidate_eq_up_iff (th : TriThresholds) (x : Rat) : triCandidate th x = .up ↔ x > th.upEnter := by
  unfold triCandidate
  split_ifs <;> simp_all

theorem triCandidate_eq_down_iff (th : TriThresholds) (x : Rat) :
    triCandidate th x = .down ↔ ¬ x > th.upEnter ∧ x < th.downEnter := by
  unfold triCandidate
  split_ifs <;> simp_all

/-- A sample in MID whose candidate is not MID. -/
theorem TriUnit.inMid_candidate (k : Nat) (cand : TriMode) (u : TriUnit) (h : cand ≠ .mid) :
    u.inMid k cand =
      if (if cand = u.pend then u.conf + 1 else 1) = k then { mode := cand, pend := .mid, conf := 0, exit := 0 }
      else { u with pend := cand, conf := if cand = u.pend then u.conf + 1 else 1 } := by
  simp [TriUnit.inMid, h]

theorem TriUnit.inMid_inv (k : Nat) (hk : 1 ≤ k) (cand : TriMode) (u : TriUnit) (h : u.inv k) (hm : u.mode = .mid) :
    (u.inMid k cand).inv k := by
  obtain ⟨⟨hc, he⟩, -, -, hx⟩ := h
  have he0 : u.exit = 0 := by
    by_contra hne
    exact hx (Nat.pos_of_ne_zero hne) hm
  by_cases hn : cand = .mid
  · refine ⟨⟨?_, ?_⟩, ?_, ?_, ?_⟩ <;> simp [TriUnit.inMid, hn, hm, he0]
  · rw [TriUnit.inMid_candidate k cand u hn]
    generalize hq : (if cand = u.pend then u.conf + 1 else 1) = q
    have hqk : q ≤ k := by rw [← hq]; split <;> omega
    split
    · refine ⟨⟨?_, ?_⟩, ?_, ?_, ?_⟩ <;> simp
    · have hlt : q ≤ k - 1 := by omega
      refine ⟨⟨hlt, he⟩, fun _ => ⟨hm, hn⟩, fun hne => absurd hm hne, fun hpos => absurd he0 (Nat.ne_of_gt hpos)⟩

theorem TriUnit.leave_inv (k : Nat) (hk : 1 ≤ k) (q : Bool) (u : TriUnit) (h : u.inv k) (hm : u.mode ≠ .mid) :
    (u.leave k q).inv k := by
  obtain ⟨⟨hc, he⟩, -, h0, -⟩ := h
  obtain ⟨hc0, hp⟩ := h0 hm
  have hc00 : ∀ {p : Prop}, u.conf > 0 → p := fun hpos => absurd hc0 (Nat.ne_of_gt hpos)
  unfold TriUnit.leave
  split
  · split
    · exact ⟨⟨hc, Nat.zero_le _⟩, hc00, fun hne => absurd rfl hne, fun hpos => absurd hpos (Nat.lt_irrefl 0)⟩
    · exact ⟨⟨hc, by show u.exit + 1 ≤ k - 1; omega⟩, hc00, fun _ => ⟨hc0, hp⟩, fun _ => hm⟩
  · exact ⟨⟨hc, Nat.zero_le _⟩, hc00, fun _ => ⟨hc0, hp⟩, fun _ => hm⟩

/-- R35: a sample keeps the invariants of a tri-state classifier. -/
theorem TriUnit.sample_inv (k : Nat) (hk : 1 ≤ k) (th : TriThresholds) (x : Rat) (u : TriUnit) (h : u.inv k) :
    (u.sample k th x).inv k := by
  unfold TriUnit.sample
  split
  · exact TriUnit.inMid_inv k hk _ u h ‹_›
  · exact TriUnit.leave_inv k hk _ u h (by simp [*])
  · exact TriUnit.leave_inv k hk _ u h (by simp [*])

/-- R36: a sample keeps the invariants of a binary classifier. -/
theorem BinUnit.sample_inv (k : Nat) (hk : 1 ≤ k) (th : BinThresholds) (x : Rat) (u : BinUnit) (h : u.inv k) :
    (u.sample k th x).inv k := by
  obtain ⟨⟨hc, he⟩, hon, hoff⟩ := h
  unfold BinUnit.sample
  split <;> rename_i hm
  · have he0 := hoff hm
    split
    · split
      · exact ⟨⟨Nat.zero_le _, he⟩, fun _ => rfl, fun hf => absurd hf (by simp)⟩
      · exact ⟨⟨by show u.conf + 1 ≤ k - 1; omega, he⟩, fun hf => absurd hf (by simp [hm]), fun _ => he0⟩
    · exact ⟨⟨Nat.zero_le _, he⟩, fun _ => rfl, fun _ => he0⟩
  · have hc0 := hon hm
    split
    · split
      · exact ⟨⟨hc, Nat.zero_le _⟩, fun _ => hc0, fun _ => rfl⟩
      · exact ⟨⟨hc, by show u.exit + 1 ≤ k - 1; omega⟩, fun _ => hc0, fun hf => absurd hf (by simp [hm])⟩
    · exact ⟨⟨hc, Nat.zero_le _⟩, fun _ => hc0, fun _ => rfl⟩

end Sys2Proof.Machine
end

