-- ==== Sys2Proof/Tests/Slice0.lean ====
section
/-! SUPPORT. Tests. Expected results come from spec/95_test_vectors.md (the vector is named) or from the rule named. The
second half shows, for every statement of Certificates/Slice0 that has hypotheses, a concrete state and operands that meet
them. -/

namespace Sys2Proof.Tests

open Sys2Proof Sys2Proof.Machine

/-! ### Helpers -/

/-- The state an operation leaves, if it leaves one. -/
def after (i : Instr) (s : State) : Option State :=
  match exec i s with
  | .next t => some t
  | _ => none

/-- The state a cycle leaves, if it leaves one. -/
def stepped (s : State) : Option State :=
  match step s with
  | .next t => some t
  | _ => none

/-- Why a cycle is refused, if it is. -/
def refusal (s : State) : Option Refusal :=
  match step s with
  | .refused r => some r
  | _ => none

/-- F992, the frame of vector V-C1. -/
def f992 : Frame :=
  #v[0x0F, 0xE0, 0x03, 0x1F, 0xF8, 0xC0, 0x07, 0x3E, 0xF0, 0x81, 0x0F, 0x7C, 0xE0, 0x03, 0x1F, 0xF8, 0xC0, 0x07, 0x3E,
    0xF0, 0x81, 0x0F, 0x7C, 0x00, 0x00]

/-- The frame of vector V-C7. -/
def frameC7 : Frame :=
  #v[0x0F, 0x01, 0x28, 0x43, 0x32, 0x5A, 0x12, 0x99, 0xFA, 0x64, 0xA9, 0x57, 0x21, 0x2B, 0x5C, 0xFA, 0x9A, 0x18, 0xCB,
    0x8A, 0xE6, 0xB5, 0xBB, 0x05, 0x00]

/-- The ChannelSet of vector V-C7. -/
def setC7 : ChannelSet :=
  { ch := #v[1, 101, 201, 301, 401, 501, 601, 701, 801, 901, 1001, 1101, 1201, 1301, 1401, 1501]
    d17 := true, d18 := false, status := .lost }

/-- The shortest marker-valid frame of the tests: every byte between the markers 0x00. -/
def plain : Frame := Frame.zero.set 0 0x0F

/-- Reset, then a collect of `n` bytes that began with the start marker. -/
def collecting (n : Fin 25) : State := { State.reset with asmCnt := n, stage := plain }

/-- Reset, with frame `f` ready. -/
def ready (f : Frame) : State := { State.reset with frame := f, frameReady := true }

/-- Collecting with a frame ready. -/
def full : State := { collecting 24 with frame := f992, frameReady := true }

/-- Reset, with tri-state classifier 0 as given. -/
def withTri (q : TriUnit) : State := { State.reset with tri := [q, TriUnit.reset] }

/-- Reset, with binary classifier 0 as given. -/
def withBin (q : BinUnit) : State := { State.reset with bin := [q] }

/-- Reset, with one cycle driven on the port. -/
def driven (c : PortCycle) : State := { State.reset with port := [c] }

/-- The smallest configuration: one tracker of one sample, no classifier, K = 1. -/
def tiny : Config := { n := 1, nt := 1, k := 1, tri := [], bin := [] }

/-! ### Well-formedness and decoding -/

/-- The one check of `Instr.wf`: op codes 0x0..0x7 are not reserved (R76). -/
theorem test_wf_refuses_unreserved : (Instr.reserved 0x3).wf = false ∧ (Instr.reserved 0x7).wf = false := by decide

theorem test_wf_accepts_reserved : (Instr.reserved 0x8).wf = true ∧ (Instr.reserved 0xF).wf = true := by decide

/-! The words below are written field by field from R76: bits 31:19, VAL 18:8, UNIT 7:4, OP 3:0. -/

theorem test_decode_nop : decodeWord (0b1010101010101#13 ++ 0b11111111111#11 ++ 0b1111#4 ++ 0b0000#4) = .nop := by decide
theorem test_decode_pushByte :
    decodeWord (0b0000000000000#13 ++ 0b111#3 ++ 0b10100101#8 ++ 0b1111#4 ++ 0b0001#4) = .pushByte 0xA5 := by decide
theorem test_decode_idleGap : decodeWord (0#13 ++ 0#11 ++ 0b0110#4 ++ 0b0010#4) = .idleGap := by decide
theorem test_decode_decode : decodeWord (0#13 ++ 0#11 ++ 0#4 ++ 0b0011#4) = .decode := by decide
theorem test_decode_encode : decodeWord (0#13 ++ 0#11 ++ 0#4 ++ 0b0100#4) = .encode := by decide
theorem test_decode_trackAdd :
    decodeWord (0b1111111111111#13 ++ 0b11100010011#11 ++ 0b0101#4 ++ 0b0101#4) = .trackAdd 5 1811 := by decide
theorem test_decode_classifyTri :
    decodeWord (0#13 ++ 0b10111011100#11 ++ 0b1000#4 ++ 0b0110#4) = .classifyTri 8 1500 := by decide
theorem test_decode_classifyBin :
    decodeWord (0#13 ++ 0b10010110000#11 ++ 0b0001#4 ++ 0b0111#4) = .classifyBin 1 1200 := by decide
theorem test_decode_reserved :
    decodeWord (0#13 ++ 0#11 ++ 0#4 ++ 0b1000#4) = .reserved 0b1000 ∧
      decodeWord (0#13 ++ 0#11 ++ 0#4 ++ 0b1110#4) = .reserved 0b1110 := by decide

/-- R79: a command is one 32-bit word. -/
theorem test_decode_length : decodeTableWord 33 0 = none ∧ decodeTableWord 4 0x2 = some .idleGap := by decide

/-- No two rows of the opcode table share a word. -/
theorem test_opcode_rows_disjoint :
    opcodeTable.Pairwise fun a b => a.mask &&& b.mask &&& (a.pattern ^^^ b.pattern) ≠ 0 := by decide

/-! ### Reset and the port -/

/-- R251: STATUS after reset. -/
theorem test_reset_status : State.reset.status = 0x0020 := by decide

/-- R250, R229: reset wins over the command of its cycle. -/
theorem test_reset_discards_command :
    (stepped { driven { rst := true, cmdValid := true, cmd := 0x8, enc := ChannelSet.reset } with badCmd := true }) =
      some State.reset := by decide

/-- R7: K = 0 breaks the constraint on K. -/
theorem test_bad_config_refused :
    refusal { State.reset with cfg := { Config.initial with k := 0 } } = some .badConfig := by decide

/-- R227: the event of an operation shows for one cycle. -/
theorem test_event_shows_one_cycle :
    (stepped (State.reset.withFetchWord 32 0x00000009)).map State.evtBits = some 0x40 ∧
      (stepped { State.reset with evt := some .badCmd }).map State.evtBits = some 0 := by decide

/-- The first operation after reset is the word that is placed (R252); example of R161. -/
theorem test_fetch_trackAdd :
    (stepped (State.reset.withFetchWord 32 0x00071305)).map (fun t => t.outputs.trkSum) = some [3377, 1740] := by decide

/-! ### Operations -/

/-- V-S9. -/
theorem test_nop : (after .nop (ready f992)).map State.status = some 0x0021 := by decide

/-- V-S1, V-S2. -/
theorem test_push_in_hunt :
    (after (.pushByte 0x00) State.reset).map State.status = some 0x0020 ∧
      (after (.pushByte 0x0F) State.reset).map State.status = some 0x0062 := by decide

/-- R100, R101: a 0x0F at byte 24 is a bad end and no start marker; R103: an overrun keeps the held frame (V-S8). -/
theorem test_push_last :
    (after (.pushByte 0x0F) (collecting 24)).map (fun t => (t.status, t.desyncCount)) = some (0x0024, 1) ∧
      (after (.pushByte 0x00) full).map (fun t => (t.status, t.frame)) = some (0x0029, f992) := by decide

/-- V-S5. -/
theorem test_gap : (after .idleGap (collecting 5)).map (fun t => (t.status, t.desyncCount)) = some (0x002C, 1) := by decide

/-- V-S11: the counter saturates. -/
theorem test_gap_saturates :
    (after .idleGap { collecting 1 with desyncCount := 0xFFFF }).map State.desyncCount = some 0xFFFF := by decide

/-- V-D2. -/
theorem test_decode_frame :
    (after .decode (ready frameC7)).map (fun t => (t.cs, t.status)) = some (setC7, 0x0010) := by decide

/-- The flag-byte table of section 2.1: status and re-encoded flag byte of 0x08, 0xF0 and 0xFF. -/
theorem test_flag_table :
    (decodeFrame (plain.set 23 0x08)).status = .failsafe ∧
      (encodeFrame (decodeFrame (plain.set 23 0x08)))[23] = 0x0C ∧
      (encodeFrame (decodeFrame (plain.set 23 0xF0)))[23] = 0x00 ∧
      (encodeFrame (decodeFrame (plain.set 23 0xFF)))[23] = 0x0F := by decide

/-- V-C7 through the port: ENCODE reads the operand of its own cycle. -/
theorem test_encode :
    (stepped (driven { rst := false, cmdValid := true, cmd := 0x4, enc := setC7 })).map (fun t => (t.txFrame, t.evtBits)) =
      some (frameC7, 0x20) := by decide

/-- V-C9: status code 3 encodes as FAILSAFE. -/
theorem test_encode_code3 :
    encodeFrame { ch := Vector.replicate 16 992, d17 := true, d18 := true, status := .reserved3 } = f992.set 23 0x0F := by
  decide

/-- V-T4: N = 1, samples 175 and 174. -/
theorem test_tracker_of_one :
    (after (.trackAdd 0 175) (State.resetWith tiny)).map (fun t => (t.outputs.trkSum, t.outputs.trkMaj)) =
      some ([175], [1]) ∧
    (after (.trackAdd 0 174) (State.resetWith tiny)).map (fun t => (t.outputs.trkSum, t.outputs.trkMaj)) =
      some ([174], [0]) := by decide

/-- V-K4, third sample, and V-K1, third sample. -/
theorem test_tri_counts :
    (after (.classifyTri 0 500) (withTri ⟨.mid, .up, 2, 0⟩)).map State.tri =
      some [⟨.mid, .down, 1, 0⟩, TriUnit.reset] ∧
    (after (.classifyTri 0 1356) (withTri ⟨.mid, .up, 2, 0⟩)).map State.tri =
      some [⟨.up, .mid, 0, 0⟩, TriUnit.reset] := by decide

/-- V-K6, last sample, and V-K8, first sample. -/
theorem test_tri_leaves :
    (after (.classifyTri 0 1113) (withTri ⟨.up, .mid, 0, 2⟩)).map State.tri =
      some [⟨.mid, .mid, 0, 0⟩, TriUnit.reset] ∧
    (after (.classifyTri 0 869) (withTri ⟨.down, .mid, 0, 1⟩)).map State.tri =
      some [⟨.down, .mid, 0, 0⟩, TriUnit.reset] := by decide

/-- V-B1, third and last samples. -/
theorem test_bin_counts :
    (after (.classifyBin 0 1153) (withBin ⟨.off, 2, 0⟩)).map State.bin = some [⟨.off, 0, 0⟩] ∧
      (after (.classifyBin 0 1154) (withBin ⟨.off, 2, 0⟩)).map State.bin = some [⟨.on, 0, 0⟩] := by decide

/-- V-B2, third and last samples. -/
theorem test_bin_leaves :
    (after (.classifyBin 0 829) (withBin ⟨.on, 0, 2⟩)).map State.bin = some [⟨.on, 0, 0⟩] ∧
      (after (.classifyBin 0 828) (withBin ⟨.on, 0, 2⟩)).map State.bin = some [⟨.off, 0, 0⟩] := by decide

/-- P6: STATUS after a bad command, and V-K12. -/
theorem test_reserved :
    (after (.reserved 9) State.reset).map State.status = some 0x0820 ∧
      after (.classifyTri 2 1500) State.reset = after (.reserved 9) State.reset := by decide

/-- R81: the written form and word of a line. -/
theorem test_text : (OpText.tadd 0 1811).word = 0x00071305 ∧ (TextLine.rep 3 .gap).expand = [.gap, .gap, .gap] := by decide

/-- R81: decimal unless written `0x..`; a byte operand above 255 is no line of the text. -/
theorem test_text_read :
    TextLine.read "TADD 0, 0x713" = some (.op (.tadd 0 1811)) ∧ TextLine.read "PUSHN 0x0F, 0, 256" = none := by decide

/-- R81: a written ChannelSet reads back. -/
theorem test_text_set : TextLine.read (TextLine.pushF setC7).render = some (.pushF setC7) := by decide

/-! ### The hypotheses of the statements can be met

One theorem for each statement with hypotheses, named after it, with a concrete instance of each clause at a boundary of
its range. (`l.all P` says that every element of `l` meets `P`.) -/

/-- Twenty-four bytes from the start marker on, and their sequence of operations. -/
def pushes24 : List Instr := .pushByte 0x0F :: List.replicate 23 (.pushByte 0x00)

/-- A cycle with one command. -/
def cycle (w : CmdWord) : PortCycle := { rst := false, cmdValid := true, cmd := w, enc := setC7 }

theorem test_hyp_EncodedInstrDecodesBack :
    (Instr.reserved 8).wf = true ∧ (Instr.reserved 15).wf = true ∧ (Instr.trackAdd 15 2047).wf = true := by decide

theorem test_hyp_CommandFieldsDecodeAsTabled :
    (∀ k : Fin 8, (BitVec.ofNat 32 (0xABCDEF0 + k.val)).toNat % 16 = k.val) ∧ 8 ≤ (0xFFFFFFF8#32).toNat % 16 ∧
      8 ≤ (0x0000000F#32).toNat % 16 := by decide

theorem test_hyp_OperationTextStandsForItsWords : OpText.gap ∈ (TextLine.rep 2 .gap).expand := by decide

theorem test_hyp_CommandCycleRunsDecodedInstr :
    let s := driven (cycle 0x00000F01)
    s.cfg.ok = true ∧ s.pins.rst = false ∧ s.pins.cmdValid = true ∧ decodeWord s.pins.cmd = .pushByte 0x0F ∧
      ∃ t, exec (.pushByte 0x0F) { s with evt := none } = .next t :=
  ⟨by decide, rfl, rfl, by decide, _, rfl⟩

theorem test_hyp_ResetCycleGivesResetState :
    let s := driven { cycle 0x8 with rst := true }
    s.cfg.ok = true ∧ s.pins.rst = true := by decide

theorem test_hyp_ResetStateHoldsListedValues :
    Config.initial.ok = true ∧ tiny.ok = true ∧ ({ Config.initial with n := 1024, nt := 16, k := 255 } : Config).ok = true := by
  decide

/-- Both sides: a legal configuration at each bound, and one beyond each. -/
theorem test_hyp_OnlyBrokenConfigurationStopsAStep :
    tiny.ok = true ∧ ({ tiny with n := 1024 } : Config).ok = true ∧ ({ tiny with n := 0 } : Config).ok = false ∧
      ({ tiny with n := 1025 } : Config).ok = false ∧ ({ tiny with nt := 17 } : Config).ok = false ∧
      ({ tiny with k := 256 } : Config).ok = false ∧ ({ tiny with activeLevel := 2048 } : Config).ok = false ∧
      ({ tiny with releasedLevel := 1811 } : Config).ok = false ∧
      ({ tiny with bin := [⟨1, 1⟩] } : Config).ok = false ∧
      ({ tiny with tri := [⟨1, 0, 1, 1⟩] } : Config).ok = false := by decide

theorem test_hyp_IssuedOperationsRunInOrder :
    let s := State.reset
    s.cfg.ok = true ∧
      ∃ t, exec OpText.gap.instr { s.issue [.gap, .push 0x0F] with evt := none } = .next t :=
  ⟨by decide, _, rfl⟩

theorem test_hyp_NopChangesNothing :
    (0xFFF80000#32 &&& 0xF = 0) ∧ State.reset.cfg.ok = true ∧ State.reset.pins.rst = false ∧
      State.reset.pins.cmdValid = false := by decide

theorem test_hyp_PushByteFollowsPseudocode :
    State.reset.asmCnt = 0 ∧ (0x0E : Byte) ≠ 0x0F ∧ (collecting 1).asmCnt ≠ 0 ∧
      (2 : Fin 25).val = (collecting 1).asmCnt.val + 1 ∧ (24 : Fin 25).val = (collecting 23).asmCnt.val + 1 ∧
      (collecting 24).asmCnt = 24 ∧ (0x0F : Byte) ≠ 0x00 ∧ (collecting 24).frameReady = false ∧ full.asmCnt = 24 ∧
      full.frameReady = true := by decide

/-- Accepted; rejected by the marker; rejected by the frame held. -/
theorem test_hyp_WindowIsAcceptedIffMarkersMatch :
    (collecting 24).stageInv ∧ (collecting 24).asmCnt = 24 ∧ (collecting 24).evt = none ∧
      (∃ t, exec (.pushByte 0x00) (collecting 24) = .next t) ∧
      (Frame.markerValid ((collecting 24).stage.set 24 0x00) ∧ (collecting 24).frameReady = false) ∧
      ¬ Frame.markerValid ((collecting 24).stage.set 24 0x01) ∧ full.stageInv ∧ full.asmCnt = 24 ∧ full.evt = none ∧
      ¬ full.frameReady = false :=
  ⟨fun _ => by decide, rfl, rfl, ⟨_, rfl⟩, by decide, by decide, fun _ => by decide, rfl, rfl, by decide⟩

theorem test_hyp_OverrunKeepsTheHeldFrame : full.asmCnt = 24 ∧ full.frameReady = true := by decide

theorem test_hyp_IdleGapDiscardsPartialFrame :
    (collecting 1).asmCnt ≠ 0 ∧ (collecting 24).asmCnt ≠ 0 ∧ State.reset.asmCnt = 0 ∧
      ∃ t, exec .idleGap (collecting 24) = .next t :=
  ⟨by decide, by decide, rfl, _, rfl⟩

theorem test_hyp_CommitNeedsFullWindowFromStartMarker :
    State.reset.asmCnt = 0 ∧
      (∃ t u, execAll pushes24 State.reset = .next t ∧ exec (.pushByte 0x00) t = .next u ∧ t.frameReady = false ∧
        u.frameReady = true) ∧
      (full.stageInv ∧ full.frame.markerValid ∧ ∃ t, execAll [.pushByte 0x00, .decode] full = .next t) :=
  ⟨rfl, ⟨_, _, rfl, rfl, rfl, rfl⟩, fun _ => by decide, by decide, _, rfl⟩

theorem test_hyp_ValidFrameFromHuntIsCommitted :
    plain.markerValid ∧ State.reset.asmCnt = 0 ∧ (∀ j ∈ pushes24, j ≠ .idleGap) ∧
      (∃ rest, pushes24 = .pushByte plain[0] :: rest) ∧ pushedBytes pushes24 = plain.toList.take 24 ∧
      State.reset.frameReady = false ∧ ∃ t, execAll pushes24 State.reset = .next t ∧ t.frameReady = false :=
  ⟨by decide, rfl, by decide, ⟨_, rfl⟩, by decide, rfl, _, rfl, rfl⟩

theorem test_hyp_GapThenValidFrameCommitsAtThePort :
    f992.markerValid ∧ (collecting 24).cfg.ok = true ∧ (collecting 24).frameReady = false := by decide

theorem test_hyp_CommitsAreTwentyFivePushesApart :
    ∃ s' t u, exec (.pushByte 0x00) (collecting 24) = .next s' ∧ (collecting 24).frameReady = false ∧
      s'.frameReady = true ∧ execAll (.decode :: pushes24) s' = .next t ∧ exec (.pushByte 0x00) t = .next u ∧
      t.frameReady = false ∧ u.frameReady = true :=
  ⟨_, _, _, rfl, rfl, rfl, rfl, rfl, rfl, rfl⟩

/-- Two frames that differ in every bit `decode` does not read. -/
theorem test_hyp_DecodeFrameFollowsPseudocode :
    let g := ((plain.set 0 0xF0).set 23 0xF0).set 24 0xFF
    (∀ i : Fin 25, 1 ≤ i.val → i.val ≤ 22 → plain[i] = g[i]) ∧ (∀ j < 4, plain[23].getLsbD j = g[23].getLsbD j) ∧
      plain ≠ g := by decide

/-- The last bit of the last channel (V-C6): bit 10 of channel 15 is payload bit 175, bit 7 of byte 22. -/
theorem test_hyp_ChannelBitsArePayloadBits :
    (15 < 16) ∧ (10 < 11) ∧ 11 * 15 + 10 = 175 ∧ 1 + 175 / 8 = 22 ∧ 175 % 8 = 7 ∧
      (decodeFrame ((plain.set 21 0xE0).set 22 0xFF)).ch[15] = 2047 := by decide

theorem test_hyp_FlagByteClassifiesStatus :
    ((0x0C : Byte).getLsbD 3 = true) ∧ ((0x08 : Byte).getLsbD 3 = true) ∧
      ((0x04 : Byte).getLsbD 3 = false ∧ (0x04 : Byte).getLsbD 2 = true) ∧
      ((0xF3 : Byte).getLsbD 3 = false ∧ (0xF3 : Byte).getLsbD 2 = false) := by decide

theorem test_hyp_EncodeFrameFollowsPseudocode : 21 < 22 ∧ (encodeFrame setC7).toList.getD (1 + 21) 0 = 0xBB := by decide

theorem test_hyp_DecodeConsumesReadyFrame :
    (ready f992).frameReady = true ∧ State.reset.frameReady = false ∧ ∃ t, exec .decode State.reset = .next t :=
  ⟨rfl, rfl, _, rfl⟩

theorem test_hyp_EncodeWritesOnlyTxFrame : (after .encode State.reset).isSome = true := by decide

theorem test_hyp_DecodeAfterEncodeIsIdentity :
    ChannelSet.reset.status ≠ .reserved3 ∧ ({ ChannelSet.reset with status := .reserved3 } : ChannelSet).status = .reserved3 := by
  decide

theorem test_hyp_PayloadsAndChannelsCorrespond :
    (decodeFrame plain).ch = (decodeFrame (plain.set 23 0xFF)).ch ∧ plain ≠ plain.set 23 0xFF := by decide

theorem test_hyp_TrackAddOverwritesOldestSlot :
    ((1 : UnitIx).toNat < State.reset.cfg.nt) ∧ State.reset.trk[(1 : UnitIx).toNat]? = some (Tracker.reset Config.initial) ∧
      ((2 : UnitIx).toNat ≥ State.reset.cfg.nt) := by decide

/-- A state that meets the invariant: the smallest configuration after reset, with a frame ready and collecting. -/
def small : State :=
  { State.resetWith tiny with
    asmCnt := 24, stage := plain, frame := f992, frameReady := true, lastCause := .gap, desyncCount := 1 }

theorem small_meets_the_invariant : small.Inv where
  cfg := by decide
  stage := fun _ => by decide
  frame := ⟨.inr (by decide), fun _ => by decide⟩
  tx := .inl rfl
  cause := by unfold State.causeInv; decide
  cs := fun h => by cases h
  units :=
    ⟨⟨rfl, fun tr h => by rw [List.mem_singleton.1 h]; exact ⟨rfl, by decide⟩⟩, ⟨rfl, fun _ h => by cases h⟩,
      ⟨rfl, fun _ h => by cases h⟩⟩

theorem test_hyp_TrackerSumIsExactAndFits :
    small.Inv ∧ small.trk[0]? = some (Tracker.reset tiny) ∧ Config.initial.n = 10 :=
  ⟨small_meets_the_invariant, by decide, rfl⟩

theorem test_hyp_MajorityIsSumAboveThreshold :
    State.reset.trk[1]? = some (Tracker.reset Config.initial) ∧ Config.initial.n = 10 ∧
      Config.initial.activeLevel = 1811 ∧ Config.initial.releasedLevel = 174 := by decide

/-- X4: windows of 6 and 4, and of 5 and 5. -/
theorem test_hyp_MajorityMeansStrictMajority :
    let six : Tracker := { win := List.replicate 6 1811 ++ List.replicate 4 174, wp := 0 }
    let five : Tracker := { win := List.replicate 5 174 ++ List.replicate 5 1811, wp := 3 }
    Config.initial.ok = true ∧ six.win.length = Config.initial.n ∧ five.win.length = Config.initial.n ∧
      ((six.win ++ five.win).all fun v => v.toNat = Config.initial.activeLevel ∨ v.toNat = Config.initial.releasedLevel) ∧
      six.maj Config.initial = true ∧ five.maj Config.initial = false := by decide

theorem test_hyp_WindowHoldsTheLastSamples :
    tiny.ok = true ∧ 0 < tiny.nt ∧
      (∃ s, execAll [.trackAdd 0 175, .trackAdd 0 174] (State.resetWith tiny) = .next s) ∧
      (∃ t, exec (.trackAdd 1 0) State.reset = .next t) ∧
      (∀ u v, Instr.trackAdd 1 0 = .trackAdd u v → u.toNat ≠ 0) :=
  ⟨by decide, by decide, ⟨_, rfl⟩, ⟨_, rfl⟩, fun u v h => by cases h; decide⟩

/-- Five active additions, one fewer than a majority of ten. -/
theorem test_hyp_ColdStartNeverReportsActive :
    let ops := List.replicate 5 (Instr.trackAdd 0 1811)
    Config.initial.ok = true ∧ 0 < Config.initial.nt ∧
      (∃ s, execAll ops (State.resetWith Config.initial) = .next s) ∧
      ((addedSamples 0 ops).all fun v => v.toNat = Config.initial.activeLevel ∨ v.toNat = Config.initial.releasedLevel) ∧
      (addedSamples 0 ops).countP (fun v => v.toNat == Config.initial.activeLevel) < Config.initial.n / 2 + 1 :=
  ⟨by decide, by decide, ⟨_, rfl⟩, by decide, by decide⟩

theorem test_hyp_TrackersAreIndependent :
    (∃ t, exec (.trackAdd 0 1811) State.reset = .next t) ∧ (1 : Nat) ≠ (0 : UnitIx).toNat ∧
      State.reset.cfg = full.cfg ∧ State.reset.trk[(0 : UnitIx).toNat]? = full.trk[(0 : UnitIx).toNat]? ∧
      (∃ t, exec (.trackAdd 0 1811) full = .next t) :=
  ⟨⟨_, rfl⟩, by decide, rfl, rfl, _, rfl⟩

theorem test_hyp_NormIsExactClampedQuotient :
    min (max (993 : Raw).toNat 174) 1800 > 992 ∧ min (max (991 : Raw).toNat 174) 1800 < 992 ∧
      min (max (992 : Raw).toNat 174) 1800 = 992 ∧ (1800 : Raw).toNat ≥ 1800 ∧ (174 : Raw).toNat ≤ 174 ∧
      (173 : Raw).toNat ≤ (174 : Raw).toNat := by decide

theorem test_hyp_ThresholdTestsHaveIntegerForm :
    (0 : Rat) ≥ 0 ∧ (mkRat (-11) 20) < 0 ∧ (mkRat 9 20) > 0 ∧ (0 : Rat) ≤ 0 := by decide

/-- R184: no candidate; UP and DOWN candidates, on the K-th sample and before it; leaving, on the K-th and before it;
staying; and a unit out of range. -/
theorem test_hyp_ClassifyTriFollowsPseudocode :
    let th : TriThresholds := {}
    let q : TriUnit := ⟨.mid, .up, 2, 0⟩
    (withTri q).cfg.tri[(0 : UnitIx).toNat]? = some th ∧ (withTri q).tri[(0 : UnitIx).toNat]? = some q ∧ q.mode = .mid ∧
      (¬ normVal 1355 > th.upEnter ∧ ¬ normVal 543 < th.downEnter ∧ ¬ normVal 543 > th.upEnter ∧
        ¬ normVal 1355 < th.downEnter) ∧
      normVal 1356 > th.upEnter ∧ normVal 542 < th.downEnter ∧ q.conf + 1 = (withTri q).cfg.k ∧
      1 ≠ (withTri q).cfg.k ∧ normVal 1113 < th.upExit ∧ ¬ normVal 1114 < th.upExit ∧ normVal 870 > th.downExit ∧
      ¬ normVal 869 > th.downExit ∧ (TriUnit.mk .up .mid 0 2).exit + 1 = (withTri q).cfg.k ∧
      (TriUnit.mk .down .mid 0 1).exit + 1 ≠ (withTri q).cfg.k ∧ (2 : UnitIx).toNat ≥ State.reset.cfg.ns := by decide

/-- R186: the same for the binary classifier. -/
theorem test_hyp_ClassifyBinFollowsPseudocode :
    let th : BinThresholds := {}
    let q : BinUnit := ⟨.off, 2, 0⟩
    (withBin q).cfg.bin[(0 : UnitIx).toNat]? = some th ∧ (withBin q).bin[(0 : UnitIx).toNat]? = some q ∧ q.mode = .off ∧
      normVal 1154 > th.btnEnter ∧ ¬ normVal 1153 > th.btnEnter ∧ q.conf + 1 = (withBin q).cfg.k ∧
      1 ≠ (withBin q).cfg.k ∧ normVal 828 < th.btnExit ∧ ¬ normVal 829 < th.btnExit ∧
      (BinUnit.mk .on 0 2).exit + 1 = (withBin q).cfg.k ∧ (BinUnit.mk .on 0 1).exit + 1 ≠ (withBin q).cfg.k ∧
      (1 : UnitIx).toNat ≥ State.reset.cfg.nb := by decide

/-- K = 3: two and three samples for UP and for DOWN, then a MID candidate; the same for ON. -/
theorem test_hyp_DebounceCommitsOnTheKthSample :
    let s := State.reset
    let th : TriThresholds := {}
    let tb : BinThresholds := {}
    (s.cfg.tri[(0 : UnitIx).toNat]? = some th ∧ s.tri[(0 : UnitIx).toNat]? = some TriUnit.reset ∧ 1 ≤ s.cfg.k ∧
      TriUnit.reset.mode = .mid ∧ TriUnit.reset.pend ≠ .up ∧ TriUnit.reset.pend ≠ .down ∧
      ((List.replicate 3 (1356 : Raw)).all fun v => normVal v > th.upEnter) ∧
      ((List.replicate 3 (542 : Raw)).all fun v => ¬ normVal v > th.upEnter ∧ normVal v < th.downEnter) ∧
      (List.replicate 2 (1356 : Raw)).length < s.cfg.k ∧ (List.replicate 3 (1356 : Raw)).length = s.cfg.k ∧
      (List.replicate 2 (1356 : Raw)).length + 1 = s.cfg.k ∧ ¬ normVal 992 > th.upEnter ∧ ¬ normVal 992 < th.downEnter) ∧
    (s.cfg.bin[(0 : UnitIx).toNat]? = some tb ∧ s.bin[(0 : UnitIx).toNat]? = some BinUnit.reset ∧
      BinUnit.reset.mode = .off ∧ BinUnit.reset.conf = 0 ∧ ((List.replicate 3 (1154 : Raw)).all fun v => normVal v > tb.btnEnter) ∧
      ¬ normVal 1153 > tb.btnEnter) := by decide

/-- Samples at the edge of staying, and K samples that leave. -/
theorem test_hyp_HysteresisHoldsTheMode :
    let q : TriUnit := ⟨.up, .mid, 0, 0⟩
    let d : TriUnit := ⟨.down, .mid, 0, 0⟩
    let b : BinUnit := ⟨.on, 0, 0⟩
    let th : TriThresholds := {}
    let tb : BinThresholds := {}
    ((withTri q).cfg.tri[(0 : UnitIx).toNat]? = some th ∧ (withTri q).tri[(0 : UnitIx).toNat]? = some q ∧ q.mode ≠ .mid ∧
      q.exit = 0 ∧ normVal 1114 ≥ th.upExit ∧ normVal 1113 < th.upExit ∧ d.mode ≠ .mid ∧ normVal 869 ≤ th.downExit ∧
      normVal 870 > th.downExit ∧
      (([1113, 1113, 1113] : List Raw).foldl (fun u v => u.sample 3 th (normVal v)) q).mode ≠ q.mode) ∧
    ((withBin b).cfg.bin[(0 : UnitIx).toNat]? = some tb ∧ (withBin b).bin[(0 : UnitIx).toNat]? = some b ∧ b.mode = .on ∧
      b.exit = 0 ∧ normVal 829 ≥ tb.btnExit ∧ normVal 828 < tb.btnExit ∧
      (([828, 828, 828] : List Raw).foldl (fun u v => u.sample 3 tb (normVal v)) b).mode ≠ .on) := by decide

theorem test_hyp_ClassifiersAreIsolated :
    State.reset.cfg = full.cfg ∧ State.reset.tri[(0 : UnitIx).toNat]? = full.tri[(0 : UnitIx).toNat]? ∧
      State.reset.bin[(0 : UnitIx).toNat]? = full.bin[(0 : UnitIx).toNat]? ∧ State.reset ≠ full ∧
      (after (.classifyTri 0 1500) State.reset).isSome = true ∧ (after (.classifyTri 0 1500) full).isSome = true ∧
      (after (.classifyBin 0 1500) State.reset).isSome = true ∧ (after (.classifyBin 0 1500) full).isSome = true := by decide

/-- Each cause in turn. -/
theorem test_hyp_DesyncChangesOnlyItsRecords :
    (collecting 24).evt = none ∧ full.evt = none ∧
      (after (.pushByte 0x0F) (collecting 24)).map State.evt = some (some (.desync .badEnd)) ∧
      (after (.pushByte 0x00) full).map State.evt = some (some (.desync .overrun)) ∧
      (after .idleGap (collecting 1)).map State.evt = some (some (.desync .gap)) := by decide

/-- A cycle with a desync at the saturated count, a cycle without one, and a sticky BAD_CMD. -/
theorem test_hyp_ErrorRecordsClearOnlyAtReset :
    let s : State := { collecting 1 with port := [cycle 0x2], desyncCount := 0xFFFF, badCmd := true }
    s.pins.rst = false ∧ (stepped s).map State.evt = some (some (.desync .gap)) ∧ State.reset.pins.rst = false ∧
      (stepped State.reset).map State.evt = some none ∧ s.badCmd = true ∧
      { State.reset with lastCause := .gap }.lastCause ≠ .noDesync := by decide

theorem test_hyp_BadCommandsOnlySetBadCmd :
    (8 ≤ (0x00000008#32).toNat % 16 ∧ 8 ≤ (0xFFFFFFFF#32).toNat % 16) ∧ State.reset.evt = none ∧
      (after (.trackAdd 2 0) State.reset).map State.evt = some (some .badCmd) ∧
      (after (.trackAdd 1 0) State.reset).map State.evt = some none := by decide

theorem test_hyp_EventPortShowsOneEvent :
    (∃ e : Event, e = .desync .gap ∧ e.bits = 0b0001110) ∧
      ((driven { cycle 0x8 with rst := true }).pins.rst = true ∧
        (stepped (driven { cycle 0x8 with rst := true })).isSome = true) ∧
      (State.reset.pins.cmdValid = false ∧ (stepped State.reset).isSome = true) :=
  ⟨⟨_, rfl, by decide⟩, by decide, by decide⟩

theorem test_hyp_EventsMarkTheirOperations :
    (ready f992).evt = none ∧ (after .decode (ready f992)).map State.evt = some (some .live) ∧
      (after (.pushByte 0x00) (collecting 24)).map State.evt = some (some .commit) ∧
      (after .decode State.reset).map State.evt = some none := by decide

theorem test_hyp_BadEndIsTestedBeforeOverrun : (0x01 : Byte) ≠ 0x00 ∧ full.asmCnt = 24 ∧ full.frameReady = true := by decide

theorem test_hyp_OutputPortsShowTheirRegisters :
    State.reset.trk[1]? = some (Tracker.reset Config.initial) ∧ State.reset.tri[1]? = some TriUnit.reset ∧
      State.reset.bin[0]? = some BinUnit.reset := by decide

/-- One operation for each register's clause. -/
theorem test_hyp_RegistersChangeOnlyByTheirWriters :
    (after .idleGap (collecting 1)).map State.asmCnt ≠ some (collecting 1).asmCnt ∧
      (after (.pushByte 0x0F) State.reset).map State.stage ≠ some State.reset.stage ∧
      (after (.pushByte 0x00) (collecting 24)).map State.frame ≠ some (collecting 24).frame ∧
      (after .decode (ready f992)).map State.frameReady = some false ∧
      (after .decode (ready f992)).map State.cs ≠ some (ready f992).cs ∧
      (after (.reserved 8) State.reset).map State.badCmd ≠ some State.reset.badCmd ∧
      (after .encode State.reset).map State.txFrame ≠ some State.reset.txFrame ∧
      (after (.trackAdd 0 1811) State.reset).map State.trk ≠ some State.reset.trk ∧
      (after (.classifyTri 0 1500) State.reset).map State.tri ≠ some State.reset.tri ∧
      (after (.classifyBin 0 1500) State.reset).map State.bin ≠ some State.reset.bin := by decide

/-- The invariant and a step from it: an overrun. -/
theorem test_hyp_EveryStepKeepsTheInvariant :
    ∃ s t : State, s.Inv ∧ step s = .next t ∧ t.evt = some (.desync .overrun) :=
  have h := small_meets_the_invariant
  ⟨{ small with port := [cycle 0x1] }, _, ⟨h.cfg, h.stage, h.frame, h.tx, h.cause, h.cs, h.units⟩, rfl, rfl⟩

theorem test_hyp_ResetMeetsTheInvariant : tiny.ok = true ∧ Config.initial.ok = true := by decide

theorem test_hyp_RegistersFitTheirWidths : ∃ s : State, s.Inv ∧ s.trk ≠ [] := ⟨small, small_meets_the_invariant, by decide⟩

end Sys2Proof.Tests
end

section
/-! The STATUS word (spec/10_state.md R37): each field read back out of the packed word. `State.status` is a chain of
`++`, most significant field first, so a field stands at 0 when it is appended and is raised by the width of every
field appended after it. -/

namespace Sys2Proof.Machine

/-- Appending `lo` below a word raises each field of the word by the width of `lo`. -/
theorem extractLsb'_append_raise {u v w i : Nat} {hi : BitVec v} {x : BitVec w} (lo : BitVec u)
    (h : hi.extractLsb' i w = x) : (hi ++ lo).extractLsb' (i + u) w = x := by
  rw [BitVec.extractLsb'_append_eq_of_le (Nat.le_add_left u i), Nat.add_sub_cancel, h]

/-- A 1-bit field, read as a bit of its word, is the register it packs. -/
theorem getLsbD_of_extractLsb'_eq_bit {n i : Nat} {x : BitVec n} {b : Bool} (h : x.extractLsb' i 1 = bit b) :
    x.getLsbD i = b := by
  rw [BitVec.getLsbD_eq_extractLsb', h]
  cases b <;> rfl

/-- ASM_CNT is at most 24, so the 5-bit field CNT holds it whole. -/
theorem cntField_toNat (n : Fin 25) : (BitVec.ofNat 5 n.val).toNat = n.val := by
  rw [BitVec.toNat_ofNat, Nat.mod_eq_of_lt (n.isLt.trans (by decide))]

/-! The fields, least significant first. -/

theorem State.status_ready (s : State) : s.status.getLsbD 0 = s.frameReady :=
  getLsbD_of_extractLsb'_eq_bit BitVec.extractLsb'_append_eq_right

theorem State.status_sync (s : State) : s.status.getLsbD 1 = decide (s.asmCnt ≠ 0) :=
  getLsbD_of_extractLsb'_eq_bit <| extractLsb'_append_raise (bit s.frameReady) BitVec.extractLsb'_append_eq_right

theorem State.status_cause (s : State) : s.status.extractLsb' 2 2 = s.lastCause.code :=
  extractLsb'_append_raise (bit s.frameReady) <| extractLsb'_append_raise (bit (decide (s.asmCnt ≠ 0)))
    BitVec.extractLsb'_append_eq_right

/-- A field of the part above CAUSE (reserved, BADCMD, CNT, CSST) stands 4 bits higher in STATUS: above CAUSE's two
bits, SYNC and READY. -/
theorem State.status_extractLsb'_aboveCause (s : State) {i w : Nat} {x : BitVec w}
    (h : (0#4 ++ bit s.badCmd ++ BitVec.ofNat 5 s.asmCnt.val ++ s.cs.status.code).extractLsb' i w = x) :
    s.status.extractLsb' (i + 4) w = x :=
  extractLsb'_append_raise (bit s.frameReady) <| extractLsb'_append_raise (bit (decide (s.asmCnt ≠ 0))) <|
    extractLsb'_append_raise s.lastCause.code h

theorem State.status_csStatus (s : State) : s.status.extractLsb' 4 2 = s.cs.status.code :=
  s.status_extractLsb'_aboveCause BitVec.extractLsb'_append_eq_right

theorem State.status_cnt (s : State) : s.status.extractLsb' 6 5 = BitVec.ofNat 5 s.asmCnt.val :=
  s.status_extractLsb'_aboveCause <| extractLsb'_append_raise s.cs.status.code BitVec.extractLsb'_append_eq_right

theorem State.status_badCmd (s : State) : s.status.getLsbD 11 = s.badCmd :=
  getLsbD_of_extractLsb'_eq_bit <| s.status_extractLsb'_aboveCause <| extractLsb'_append_raise s.cs.status.code <|
    extractLsb'_append_raise (BitVec.ofNat 5 s.asmCnt.val) BitVec.extractLsb'_append_eq_right

theorem State.status_reserved (s : State) : s.status.extractLsb' 12 4 = 0 :=
  s.status_extractLsb'_aboveCause <| extractLsb'_append_raise s.cs.status.code <|
    extractLsb'_append_raise (BitVec.ofNat 5 s.asmCnt.val) <| extractLsb'_append_raise (bit s.badCmd)
      BitVec.extractLsb'_eq_self

/-- STATUS reads no register whose reset value depends on the configuration, so its reset value is that of
`State.reset`. -/
theorem State.status_resetWith (c : Config) : (State.resetWith c).status = 0x0020 :=
  calc (State.resetWith c).status = State.reset.status := rfl
    _ = 0x0020 := by decide

/-- Settles O52: each field by its own lemma above, the reset value by `State.status_resetWith`; the codes are the
tables of R74 and R220, by definition. -/
theorem statusWordPacksItsFields : Obligations.StatusWordPacksItsFields := by
  unfold Obligations.StatusWordPacksItsFields
  refine ⟨fun s => ?fields, State.status_resetWith, ⟨rfl, rfl, rfl, rfl⟩, ⟨rfl, rfl, rfl, rfl⟩⟩
  have hsync : s.status.getLsbD 1 = decide (s.asmCnt.val ≠ 0) := by
    rw [s.status_sync, decide_eq_decide]
    exact Fin.val_ne_zero_iff.symm
  have hcnt : (s.status.extractLsb' 6 5).toNat = s.asmCnt.val := by
    rw [s.status_cnt, cntField_toNat]
  exact ⟨s.status_ready, hsync, s.status_cause, s.status_csStatus, hcnt, s.status_badCmd, s.status_reserved⟩

end Sys2Proof.Machine
end

section
/-! The payload of a frame (spec/20_memory.md R51) and the channel bits in it (R52): the model's `payload` is the sum the
spec writes, and a bit of a decoded channel is a bit of that number. -/

namespace Sys2Proof.Machine

theorem payload_bytes_length (f : Frame) : ((f.toList.drop 1).take 22).length = 22 := by
  simp

/-- P = Σ_{m=0..21} B[1+m]·2^(8m) (R51). -/
theorem payload_eq_sum (f : Frame) :
    payload f = ((List.range 22).map fun m => (f.toList.getD (1 + m) 0).toNat * 2 ^ (8 * m)).sum := by
  rw [payload, packFields_eq_sum, payload_bytes_length]
  congr 1
  apply List.map_congr_left
  intro m hm
  rw [payload_bytes_getD f m (List.mem_range.mp hm)]

/-- Bit `j` of channel `k` is payload bit `11k + j` (R52). -/
theorem decodeFrame_ch_getLsbD (f : Frame) (k j : Nat) (hk : k < 16) (hj : j < 11) :
    (decodeFrame f).ch[k].getLsbD j = (payload f).testBit (11 * k + j) := by
  rw [decodeFrame_ch_getElem, fieldAt_getLsbD _ _ _ _ hj]

theorem decodeFrame_ch_getD (f : Frame) (k : Nat) (hk : k < 16) :
    (decodeFrame f).ch.toList.getD k 0 = (decodeFrame f).ch[k] := by
  simp [List.getD_eq_getElem?_getD, hk]

/-- Settles O23: the spec's sum is `payload`, whose bits are the frame bytes' (`payload_testBit`); a channel bit is a
payload bit, and the last one, 11·15 + 10 = 175, still lies in the payload. -/
theorem channelBitsArePayloadBits : Obligations.ChannelBitsArePayloadBits := by
  unfold Obligations.ChannelBitsArePayloadBits
  intro f
  rw [← payload_eq_sum f]
  refine ⟨payload_testBit f, fun k j hk hj => decodeFrame_ch_getLsbD f k j hk hj, fun k j hk hj => ?byteBit⟩
  have hp : 11 * k + j < 176 := by omega
  rw [decodeFrame_ch_getD f k hk, decodeFrame_ch_getLsbD f k j hk hj, payload_testBit f _ hp]

end Sys2Proof.Machine
end

section
/-! The fields of a command word (spec/30_encoding.md R76, R77) as numbers, and the decoder's choice among the operations
by them. -/

namespace Sys2Proof

/-- A field of `n` bits at bit `i` of a word is the word's value, divided by 2^i and cut to `n` bits. -/
theorem extractLsb'_eq_ofNat_div {m : Nat} (w : BitVec m) (i n : Nat) :
    w.extractLsb' i n = BitVec.ofNat n (w.toNat / 2 ^ i % 2 ^ n) := by
  apply BitVec.eq_of_toNat_eq
  simp [Nat.shiftRight_eq_div_pow]

theorem opField_toNat (w : CmdWord) : (opField w).toNat = w.toNat % 16 := by
  simp [opField]

theorem unitField_eq_ofNat (w : CmdWord) : unitField w = BitVec.ofNat 4 (w.toNat / 2 ^ 4 % 2 ^ 4) :=
  extractLsb'_eq_ofNat_div w 4 4

theorem valField_eq_ofNat (w : CmdWord) : valField w = BitVec.ofNat 11 (w.toNat / 2 ^ 8 % 2 ^ 11) :=
  extractLsb'_eq_ofNat_div w 8 11

theorem byteField_eq_ofNat (w : CmdWord) : byteField w = BitVec.ofNat 8 (w.toNat / 2 ^ 8 % 2 ^ 8) :=
  extractLsb'_eq_ofNat_div w 8 8

/-- No op code from 8 up has an arm of its own in the decoder (R78). -/
theorem decodeWord_of_opField_ge {w : CmdWord} (h : 8 ≤ (opField w).toNat) : decodeWord w = .reserved (opField w) := by
  unfold decodeWord
  split
  case h_9 => rfl
  all_goals omega

/-- Settles O2: the decoder looks at `opField w`, which is `w.toNat % 16`; each op code below 8 picks its own arm, whose
operands are the fields above, and the others fall to the reserved arm. -/
theorem commandFieldsDecodeAsTabled : Obligations.CommandFieldsDecodeAsTabled := by
  unfold Obligations.CommandFieldsDecodeAsTabled
  intro w
  rw [← opField_toNat, ← byteField_eq_ofNat, ← unitField_eq_ofNat, ← valField_eq_ofNat]
  refine ⟨fun h => ?nop, fun h => ?pushByte, fun h => ?idleGap, fun h => ?decode, fun h => ?encode, fun h => ?trackAdd,
    fun h => ?classifyTri, fun h => ?classifyBin, fun h => ?reserved⟩
  case reserved => rw [decodeWord_of_opField_ge h, BitVec.ofNat_toNat, BitVec.setWidth_eq]
  all_goals simp only [decodeWord, h]

end Sys2Proof
end

section
/-! The byte expressions of the channels (spec/30_encoding.md R72). A channel is 11 bits wide and begins at bit `s` of its
first byte, so it always lies in a window of three bytes; where `s` is at most 5, it ends in the second. -/

namespace Sys2Proof.Machine

/-- Three bytes put together as R72 does, the first shifted down by `s`: bit `j` is bit `s + j` of the bytes in a row. -/
theorem byteWindow_testBit (b : Nat → Byte) (q s j : Nat) (hs : s < 8) (hj : s + j < 24) :
    ((b q).toNat >>> s ||| (b (q + 1)).toNat <<< (8 - s) ||| (b (q + 2)).toNat <<< (16 - s)).testBit j =
      (b (q + (s + j) / 8)).getLsbD ((s + j) % 8) := by
  simp only [Nat.testBit_or, Nat.testBit_shiftRight, Nat.testBit_shiftLeft, BitVec.testBit_toNat]
  obtain hd | hd | hd : (s + j) / 8 = 0 ∨ (s + j) / 8 = 1 ∨ (s + j) / 8 = 2 := by omega
  case inl =>
    have hm : (s + j) % 8 = s + j := by omega
    simp [hd, hm, show ¬ 8 - s ≤ j by omega, show ¬ 16 - s ≤ j by omega]
  case inr.inl =>
    have hm : (s + j) % 8 = j - (8 - s) := by omega
    have hfirst : (b q).getLsbD (s + j) = false := BitVec.getLsbD_of_ge _ _ (by omega)
    simp [hd, hm, hfirst, show 8 ≤ j + s by omega, show ¬ 16 - s ≤ j by omega]
  case inr.inr =>
    have hm : (s + j) % 8 = j - (16 - s) := by omega
    have hfirst : (b q).getLsbD (s + j) = false := BitVec.getLsbD_of_ge _ _ (by omega)
    have hsecond : (b (q + 1)).getLsbD (j - (8 - s)) = false := BitVec.getLsbD_of_ge _ _ (by omega)
    simp [hd, hm, hfirst, hsecond, show 16 ≤ j + s by omega]

/-- The mask of R72 keeps the 11 bits of a channel. -/
theorem and_channelMask (x : Nat) : x &&& 0x7FF = x % 2 ^ 11 :=
  Nat.and_two_pow_sub_one_eq_mod x 11

/-- Channel `k`, whose bit 0 is bit `s` of frame byte `q`, from three bytes. -/
theorem decodeFrame_ch_eq_threeBytes (f : Frame) (k q s : Nat) (hk : k < 16) (hs : s < 8) (hq : 11 * k + 8 = 8 * q + s) :
    ((decodeFrame f).ch.toList.getD k 0).toNat =
      ((f.toList.getD q 0).toNat >>> s ||| (f.toList.getD (q + 1) 0).toNat <<< (8 - s) |||
        (f.toList.getD (q + 2) 0).toNat <<< (16 - s)) &&& 0x7FF := by
  rw [decodeFrame_ch_getD f k hk, and_channelMask]
  apply Nat.eq_of_testBit_eq
  intro j
  rw [BitVec.testBit_toNat, Nat.testBit_mod_two_pow]
  by_cases hj : j < 11
  case pos =>
    have hbyte : 1 + (11 * k + j) / 8 = q + (s + j) / 8 := by omega
    have hbit : (11 * k + j) % 8 = (s + j) % 8 := by omega
    rw [decodeFrame_ch_getLsbD f k j hk hj, payload_testBit f _ (by omega), hbyte, hbit,
      byteWindow_testBit (fun i => f.toList.getD i 0) q s j hs (by omega), decide_eq_true hj, Bool.true_and]
  case neg => rw [BitVec.getLsbD_of_ge _ j (by omega), decide_eq_false hj, Bool.false_and]

/-- A channel that begins at bit 5 of its first byte or below ends in the next byte: the mask clears the third. -/
theorem decodeFrame_ch_eq_twoBytes (f : Frame) (k q s : Nat) (hk : k < 16) (hs : s ≤ 5) (hq : 11 * k + 8 = 8 * q + s) :
    ((decodeFrame f).ch.toList.getD k 0).toNat =
      ((f.toList.getD q 0).toNat >>> s ||| (f.toList.getD (q + 1) 0).toNat <<< (8 - s)) &&& 0x7FF := by
  have hthird (x : Nat) : x <<< (16 - s) &&& 0x7FF = 0 := by
    rw [and_channelMask, Nat.shiftLeft_eq]
    exact Nat.mod_eq_zero_of_dvd (Dvd.dvd.mul_left (Nat.pow_dvd_pow 2 (by omega)) x)
  rw [decodeFrame_ch_eq_threeBytes f k q s hk (by omega) hq, Nat.and_or_distrib_right, hthird, Nat.or_zero]

/-- Settles O24: each row of the table is one of the two lemmas above at the channel's number, first byte and shift. -/
theorem channelsMatchByteSpanTable : Obligations.ChannelsMatchByteSpanTable := by
  unfold Obligations.ChannelsMatchByteSpanTable
  intro f
  have two := decodeFrame_ch_eq_twoBytes f
  have three := decodeFrame_ch_eq_threeBytes f
  exact ⟨two 0 1 0 (by omega) (by omega) rfl, two 1 2 3 (by omega) (by omega) rfl,
    three 2 3 6 (by omega) (by omega) rfl, two 3 5 1 (by omega) (by omega) rfl,
    two 4 6 4 (by omega) (by omega) rfl, three 5 7 7 (by omega) (by omega) rfl,
    two 6 9 2 (by omega) (by omega) rfl, two 7 10 5 (by omega) (by omega) rfl,
    two 8 12 0 (by omega) (by omega) rfl, two 9 13 3 (by omega) (by omega) rfl,
    three 10 14 6 (by omega) (by omega) rfl, two 11 16 1 (by omega) (by omega) rfl,
    two 12 17 4 (by omega) (by omega) rfl, three 13 18 7 (by omega) (by omega) rfl,
    two 14 20 2 (by omega) (by omega) rfl, two 15 21 5 (by omega) (by omega) rfl⟩

end Sys2Proof.Machine
end

section
/-! Every operation completes (spec/40_frame_sync.md R109): the effects of `Effect` are not only all that an operation can
do, they are what it does, so a next state of an operation is computed by naming its effect. -/

namespace Sys2Proof.Machine

theorem exec_of_isIdle {i : Instr} {s : State} (h : IsIdle s i) : exec i s = .next s := by
  cases h with
  | nop => rfl
  | pushByte b h hb => simp only [exec, execPushByte, State.huntByte, if_pos h, if_neg hb]
  | idleGap h => exact if_neg (not_not.2 h)
  | decode h => exact if_neg (Bool.eq_false_iff.1 h)

theorem exec_of_isBadCommand {i : Instr} {s : State} (h : IsBadCommand s.cfg i) : exec i s = .next s.raiseBadCmd := by
  cases h with
  | reserved op => rfl
  | trackAdd t v h => exact if_pos h
  | classifyTri u v h => exact dif_neg (not_lt.2 h)
  | classifyBin u v h => exact dif_neg (not_lt.2 h)

/-- PUSH_BYTE while ASM_CNT is 24 runs the third branch of R100. -/
theorem exec_pushByte_last {s : State} (b : Byte) (h : s.asmCnt = 24) : exec (.pushByte b) s = .next (s.lastByte b) := by
  simp [exec, execPushByte, h]

/-- The converse of `exec_effect`. -/
theorem exec_of_effect {i : Instr} {s t : State} (h : Effect i s t) : exec i s = .next t := by
  cases h with
  | idle h => exact exec_of_isIdle h
  | badCommand h => exact exec_of_isBadCommand h
  | startByte h => simp only [exec, execPushByte, State.huntByte, if_pos h, if_true]
  | nextByte n h hn =>
    have h23 : s.asmCnt.val ≤ 23 := by omega
    simp only [exec, execPushByte, if_neg h, dif_pos h23, ← hn]
  | badEnd h hb => simp only [exec_pushByte_last _ h, State.lastByte, if_pos hb]
  | overrun h hr => simp only [exec_pushByte_last _ h, State.lastByte, hr, ne_eq, not_true, if_false, if_true]
  | commit h hr =>
    simp only [exec_pushByte_last _ h, State.lastByte, hr, ne_eq, not_true, if_false, Bool.false_eq_true]
  | gap h => exact if_pos h
  | decode h => exact if_pos h
  | encode => rfl
  | trackAdd h => exact if_neg (not_le.2 h)
  | classifyTri h =>
    obtain ⟨hu, rfl⟩ := List.getElem?_eq_some_iff.1 h
    exact dif_pos hu
  | classifyBin h =>
    obtain ⟨hu, rfl⟩ := List.getElem?_eq_some_iff.1 h
    exact dif_pos hu

theorem exec_eq_next_iff {i : Instr} {s t : State} : exec i s = .next t ↔ Effect i s t :=
  ⟨exec_effect, exec_of_effect⟩

/-- PUSH_BYTE has an effect in the hunt phase, inside a window and on its last byte. -/
theorem exists_effect_pushByte (b : Byte) (s : State) : ∃ t, Effect (.pushByte b) s t := by
  by_cases h0 : s.asmCnt = 0
  · by_cases hb : b = startMark
    · subst hb
      exact ⟨_, .startByte h0⟩
    · exact ⟨_, .idle (.pushByte b h0 hb)⟩
  by_cases h23 : s.asmCnt.val ≤ 23
  · exact ⟨_, .nextByte ⟨s.asmCnt.val + 1, by omega⟩ h0 rfl⟩
  · exact ⟨_, exec_effect (exec_pushByte_last b (by omega))⟩

/-- Settles O10: every operation has an effect in every state, by its operand (a unit in range or not) and the phase. -/
theorem everyInstrCompletesInEveryState : Obligations.EveryInstrCompletesInEveryState := by
  unfold Obligations.EveryInstrCompletesInEveryState
  intro i s
  simp only [exec_eq_next_iff]
  cases i with
  | nop => exact ⟨_, .idle .nop⟩
  | pushByte b => exact exists_effect_pushByte b s
  | idleGap =>
    by_cases h : s.asmCnt = 0
    · exact ⟨_, .idle (.idleGap h)⟩
    · exact ⟨_, .gap h⟩
  | decode =>
    cases h : s.frameReady
    · exact ⟨_, .idle (.decode h)⟩
    · exact ⟨_, .decode h⟩
  | encode => exact ⟨_, .encode⟩
  | trackAdd u v =>
    by_cases h : u.toNat < s.cfg.nt
    · exact ⟨_, .trackAdd h⟩
    · exact ⟨_, .badCommand (.trackAdd u v (not_lt.1 h))⟩
  | classifyTri u v =>
    by_cases h : u.toNat < s.cfg.ns
    · exact ⟨_, .classifyTri (List.getElem?_eq_getElem h)⟩
    · exact ⟨_, .badCommand (.classifyTri u v (not_lt.1 h))⟩
  | classifyBin u v =>
    by_cases h : u.toNat < s.cfg.nb
    · exact ⟨_, .classifyBin (List.getElem?_eq_getElem h)⟩
    · exact ⟨_, .badCommand (.classifyBin u v (not_lt.1 h))⟩
  | reserved op => exact ⟨_, .badCommand (.reserved op)⟩

end Sys2Proof.Machine
end

section
/-! NOP and the cycle without a command (spec/40_frame_sync.md R105). -/

namespace Sys2Proof.Machine

/-- A cycle without a reset or a command (R78): the shown event ends and the port list moves on. -/
theorem step_of_no_command {s : State} (hok : s.cfg.ok = true) (hr : s.pins.rst = false) (hv : s.pins.cmdValid = false) :
    step s = .next s.beginCycle.endCycle := by
  simp [step, runCycle, State.accepted, hok, hr, hv]

/-- A cycle with a command runs it after the shown event has ended (R227, R253). -/
theorem step_withCommand {s u : State} {w : CmdWord} (hok : s.cfg.ok = true)
    (h : exec (decodeWord w) (s.withCommand w).beginCycle = .next u) : step (s.withCommand w) = .next u.endCycle := by
  simp [step, runCycle, State.accepted, State.pins, hok, h]

/-- A word whose four op code bits are 0 is a NOP, whatever its other bits (R76). -/
theorem decodeWord_eq_nop {w : CmdWord} (h : w &&& 0xF = 0) : decodeWord w = .nop := by
  have hmod : w.toNat % 16 = 0 := by
    rw [← Nat.and_two_pow_sub_one_eq_mod w.toNat 4]
    exact congrArg BitVec.toNat h
  exact (commandFieldsDecodeAsTabled w).1 hmod

/-- Settles O12: `step_of_no_command` and `step_withCommand` end in one state, since NOP adds nothing between the start
and the end of its cycle. -/
theorem nopChangesNothing : Obligations.NopChangesNothing := by
  unfold Obligations.NopChangesNothing
  refine ⟨fun s => rfl, fun w => decodeWord_eq_nop, fun s hok hr hv => ?cycle⟩
  have hnop : decodeWord (encodeWord .nop) = .nop := decodeWord_eq_nop (by decide)
  have hidle := step_of_no_command hok hr hv
  have hcmd : step (s.withCommand (encodeWord .nop)) = .next s.beginCycle.endCycle :=
    step_withCommand (u := (s.withCommand _).beginCycle) hok (by rw [hnop]; rfl)
  exact ⟨hidle, hcmd.trans hidle.symm⟩

end Sys2Proof.Machine
end

section
/-! PUSH_BYTE and IDLE_GAP, one operation at a time (spec/40_frame_sync.md R100 to R104). Each case of the pseudocode is a
constructor of `Effect`. -/

namespace Sys2Proof.Machine

/-- In the command word of PUSH_BYTE (R100) the byte stands above the eight bits that hold the op code 1. -/
theorem pushByteWord_toNat (b : Byte) : (BitVec.ofNat 32 (b.toNat <<< 8 ||| 0x1)).toNat = 2 ^ 8 * b.toNat + 1 := by
  have hb := b.isLt
  rw [Nat.shiftLeft_eq, Nat.mul_comm, ← Nat.two_pow_add_eq_or_of_lt (by decide), BitVec.toNat_ofNat]
  exact Nat.mod_eq_of_lt (by omega)

theorem decodeWord_pushByteWord (b : Byte) : decodeWord (BitVec.ofNat 32 (b.toNat <<< 8 ||| 0x1)) = .pushByte b := by
  obtain ⟨-, hpush, -⟩ := commandFieldsDecodeAsTabled (BitVec.ofNat 32 (b.toNat <<< 8 ||| 0x1))
  have hb := b.isLt
  rw [pushByteWord_toNat] at hpush
  rw [hpush (by omega), show (2 ^ 8 * b.toNat + 1) / 2 ^ 8 % 2 ^ 8 = b.toNat by omega, BitVec.ofNat_toNat,
    BitVec.setWidth_eq]

/-- The state a commit leaves (R100): FRAME and STAGE are the collected window with its last byte. -/
theorem exec_pushByte_commit {s : State} (h : s.asmCnt = 24) (hr : s.frameReady = false) :
    exec (.pushByte endMark) s =
      .next { s with stage := s.stage.set 24 endMark, asmCnt := 0, frame := s.stage.set 24 endMark, frameReady := true,
                     evt := some .commit } := by
  rw [exec_of_effect (.commit h hr)]
  simp [State.commitFrame, State.stagePut, State.signal]

/-- Settles O13: the six cases are constructors of `Effect`, whose next states are the records the statement writes. -/
theorem pushByteFollowsPseudocode : Obligations.PushByteFollowsPseudocode := by
  unfold Obligations.PushByteFollowsPseudocode
  intro b s
  refine ⟨?start, ?discard, ?next, ?badEnd, ?overrun, ?commit, decodeWord_pushByteWord b⟩
  case start => rintro h rfl; exact exec_of_effect (.startByte h)
  case discard => exact fun h hb => exec_of_effect (.idle (.pushByte b h hb))
  case next => exact fun h n hn => exec_of_effect (.nextByte n h hn)
  case badEnd => exact fun h hb => exec_of_effect (.badEnd h hb)
  case overrun => rintro h rfl hr; exact exec_of_effect (.overrun h hr)
  case commit => rintro h rfl hr; exact exec_pushByte_commit h hr

/-- The markers of a window whose last byte is still to be stored (R102). -/
theorem markerValid_set_last_iff (f : Frame) (b : Byte) :
    Frame.markerValid (f.set 24 b) ↔ f[0] = startMark ∧ b = endMark := by
  simp [Frame.markerValid]

/-- Settles O14: by `stageInv` the window begins with the start marker, so it is valid iff the last byte is the end
marker; the three outcomes of the last byte are then a bad end, an overrun and a commit. -/
theorem windowIsAcceptedIffMarkersMatch : Obligations.WindowIsAcceptedIffMarkersMatch := by
  unfold Obligations.WindowIsAcceptedIffMarkersMatch
  intro b s t hinv h24 _ h
  have hstart : s.stage[0] = startMark := hinv (by rw [h24]; decide)
  rw [markerValid_set_last_iff, and_iff_right hstart]
  rw [exec_pushByte_last b h24] at h
  by_cases hb : b = endMark
  case neg => simp [next_inj h, State.lastByte, hb]
  case pos => cases hr : s.frameReady <;> simp [next_inj h, State.lastByte, hb, hr]

/-- Settles O15: the overrun effect writes the stage and the desync record and nothing else. -/
theorem overrunKeepsTheHeldFrame : Obligations.OverrunKeepsTheHeldFrame := by
  unfold Obligations.OverrunKeepsTheHeldFrame
  intro s h24 hr
  exact ⟨_, exec_of_effect (.overrun h24 hr), rfl, hr, rfl, rfl, satIncr_toNat _, rfl, rfl, rfl⟩

/-- IDLE_GAP leaves every state in hunt and writes no part of the frame path but ASM_CNT (R104). -/
theorem Effect.idleGap_keeps_frames {s t : State} (h : Effect .idleGap s t) :
    t.asmCnt = 0 ∧ t.frame = s.frame ∧ t.frameReady = s.frameReady ∧ t.stage = s.stage := by
  cases h with
  | idle h => cases h with | idleGap h => exact ⟨h, rfl, rfl, rfl⟩
  | badCommand h => cases h
  | gap h => exact ⟨rfl, rfl, rfl, rfl⟩

/-- Settles O16: the two effects of IDLE_GAP; a second one finds the state in hunt, where it is idle. -/
theorem idleGapDiscardsPartialFrame : Obligations.IdleGapDiscardsPartialFrame := by
  unfold Obligations.IdleGapDiscardsPartialFrame
  intro s
  have hword : decodeWord 0x00000002 = .idleGap := by decide
  refine ⟨fun h => exec_of_effect (.gap h), fun h => exec_of_effect (.idle (.idleGap h)), fun t h => ?_, hword⟩
  obtain ⟨hhunt, hframe, hready, hstage⟩ := (exec_effect h).idleGap_keeps_frames
  exact ⟨hframe, hready, hstage, exec_of_effect (.idle (.idleGap hhunt))⟩

end Sys2Proof.Machine
end

section
/-! The window being collected (spec/40_frame_sync.md R101, R106, R107). A state holds the bytes collected so far,
`State.collected`; an operation leaves the synchronizer in hunt or appends what it pushes to those bytes
(`SyncStep`). Both directions of the commit guarantee are read off a run by that one step lemma. -/

namespace Sys2Proof.Machine

theorem pushedBytes_cons (i : Instr) (ops : List Instr) : pushedBytes (i :: ops) = pushedBytes [i] ++ pushedBytes ops :=
  pushedBytes_append [i] ops

/-- A run that ends in a next state does so operation by operation. -/
theorem execAll_cons_next {i : Instr} {ops : List Instr} {s u : State} (h : execAll (i :: ops) s = .next u) :
    ∃ t, exec i s = .next t ∧ execAll ops t = .next u := by
  simp only [execAll] at h
  split at h <;> try cases h
  exact ⟨_, ‹_›, h⟩

/-- The last operation of a run that ends in a next state starts where the others end. -/
theorem execAll_concat_next {i : Instr} {ops : List Instr} {s u : State} (h : execAll (ops ++ [i]) s = .next u) :
    ∃ t, execAll ops s = .next t ∧ exec i t = .next u := by
  rw [execAll_append] at h
  split at h <;> try cases h
  obtain ⟨v, hv, hu⟩ := execAll_cons_next h
  exact ⟨_, ‹_›, next_inj hu ▸ hv⟩

/-- What every effect keeps, every run keeps. -/
theorem execAll_keeps {P : State → Prop} (hstep : ∀ i s t, Effect i s t → P s → P t) {ops : List Instr} {s t : State}
    (h : execAll ops s = .next t) (hs : P s) : P t := by
  induction ops generalizing s with
  | nil => exact next_inj h ▸ hs
  | cons i ops ih =>
    obtain ⟨v, hv, ht⟩ := execAll_cons_next h
    exact ih ht (hstep i s v (exec_effect hv) hs)

/-! The markers (R22, R106). -/

theorem State.stageInv_of_hunt {s : State} (h : s.asmCnt = 0) : s.stageInv := fun h0 => absurd h h0

/-- R22: only a start marker opens a window, and no later byte overwrites it. -/
theorem Effect.keeps_stageInv {i : Instr} {s t : State} (h : Effect i s t) (hs : s.stageInv) : t.stageInv := by
  cases h with
  | startByte h => exact fun _ => Vector.getElem_set_self _
  | nextByte n h hn => exact fun _ => (stage_set_getElem_zero _ _ _ h).trans (hs h)
  | badEnd h hb => exact State.stageInv_of_hunt rfl
  | overrun h hr => exact State.stageInv_of_hunt rfl
  | commit h hr => exact State.stageInv_of_hunt rfl
  | gap h => exact State.stageInv_of_hunt rfl
  | _ => simpa [State.stageInv] using hs

/-- FRAME_READY rises only on an end marker pushed as byte 24, and FRAME is then the collected window (R106). -/
theorem Effect.frameReady_rises {i : Instr} {s t : State} (h : Effect i s t) (hs : s.frameReady = false)
    (ht : t.frameReady = true) :
    i = .pushByte endMark ∧ s.asmCnt = 24 ∧ t.frame = s.stage.set 24 endMark := by
  cases h with
  | commit h hr => exact ⟨rfl, h, by simp⟩
  | _ => simp [hs] at ht

/-- Only a commit writes FRAME, and the window it commits is marker-valid by R22. -/
theorem Effect.frame_eq_or_markerValid {i : Instr} {s t : State} (h : Effect i s t) (hs : s.stageInv) :
    t.frame = s.frame ∨ t.frame.markerValid := by
  cases h with
  | commit h hr =>
    refine .inr ?_
    rw [State.commitFrame_frame, markerValid_set_last_iff]
    exact ⟨(stage_set_getElem_zero _ _ 24 (by decide)).trans (hs (by rw [h]; decide)), rfl⟩
  | _ => simp

/-! The bytes collected. -/

/-- The bytes of the window collected so far: STAGE up to ASM_CNT; none in hunt. -/
def State.collected (s : State) : List Byte := s.stage.toList.take s.asmCnt.val

theorem State.collected_length (s : State) : s.collected.length = s.asmCnt.val := by
  simp only [State.collected, List.length_take, Vector.length_toList]
  omega

theorem State.collected_of_hunt {s : State} (h : s.asmCnt = 0) : s.collected = [] :=
  List.eq_nil_of_length_eq_zero (by rw [s.collected_length, h]; rfl)

/-- The bytes before a stored byte, and that byte. -/
theorem toList_set_take_succ (f : Frame) (b : Byte) (n : Nat) (hn : n < 25) :
    (f.set n b).toList.take (n + 1) = f.toList.take n ++ [b] := by
  rw [Vector.toList_set, List.take_add_one, List.take_set_of_le (le_refl n)]
  simp [hn]

/-- A window of 24 collected bytes and its last byte (R50). -/
theorem toList_set_last (f : Frame) (b : Byte) : (f.set 24 b).toList = f.toList.take 24 ++ [b] := by
  rw [← toList_set_take_succ f b 24 (by decide), List.take_of_length_le (by simp)]

theorem State.toList_stage_set_last {s : State} (h : s.asmCnt = 24) (b : Byte) :
    (s.stage.set 24 b).toList = s.collected ++ [b] := by
  rw [toList_set_last, State.collected, h]
  rfl

/-- Storing a byte at ASM_CNT and counting it appends it to the window. -/
theorem State.stagePut_collected (s : State) (b : Byte) (n : Fin 25) (hn : n.val = s.asmCnt.val + 1) :
    (s.stagePut s.asmCnt b n).collected = s.collected ++ [b] := by
  simp only [State.collected, State.stagePut_stage, State.stagePut_asmCnt, hn, toList_set_take_succ]

/-- From `s` to `t` the window grew by `bs`, and nothing was committed or counted as a desync. -/
structure State.Collects (s : State) (bs : List Byte) (t : State) : Prop where
  collected : t.collected = s.collected ++ bs
  frame : t.frame = s.frame
  desyncCount : t.desyncCount = s.desyncCount
  frameReady : s.frameReady = false → t.frameReady = false

theorem State.Collects.refl (s : State) : s.Collects [] s := ⟨(List.append_nil _).symm, rfl, rfl, id⟩

theorem State.Collects.trans {s t u : State} {bs cs : List Byte} (h : s.Collects bs t) (h' : t.Collects cs u) :
    s.Collects (bs ++ cs) u where
  collected := by rw [h'.collected, h.collected, List.append_assoc]
  frame := h'.frame.trans h.frame
  desyncCount := h'.desyncCount.trans h.desyncCount
  frameReady := fun hs => h'.frameReady (h.frameReady hs)

/-- ASM_CNT counts the bytes collected. -/
theorem State.Collects.asmCnt {s t : State} {bs : List Byte} (h : s.Collects bs t) :
    t.asmCnt.val = s.asmCnt.val + bs.length := by
  rw [← t.collected_length, h.collected, List.length_append, s.collected_length]

/-- Storing a byte that is not the last one collects it. -/
theorem State.collects_stagePut (s : State) (b : Byte) (n : Fin 25) (hn : n.val = s.asmCnt.val + 1) :
    s.Collects [b] (s.stagePut s.asmCnt b n) :=
  ⟨s.stagePut_collected b n hn, rfl, rfl, id⟩

/-- What an operation does to the window (R101, R104). -/
inductive SyncStep : Instr → State → State → Prop where
  /-- In hunt, only a start marker begins a window. -/
  | hunt {i s t} (hs : s.asmCnt = 0) (hi : i ≠ .pushByte startMark) (ht : t.asmCnt = 0) : SyncStep i s t
  /-- IDLE_GAP discards the window. -/
  | gap {s t} (ht : t.asmCnt = 0) : SyncStep .idleGap s t
  /-- The last byte ends the window, whatever comes of it. -/
  | last {b s t} (hs : s.asmCnt = 24) (ht : t.asmCnt = 0) : SyncStep (.pushByte b) s t
  /-- Any other operation appends what it pushes. -/
  | collect {i s t} (hi : i ≠ .idleGap) (hs : s.asmCnt = 0 → i = .pushByte startMark)
      (h : s.Collects (pushedBytes [i]) t) : SyncStep i s t

/-- An operation other than PUSH_BYTE and IDLE_GAP, which leaves the registers of the synchronizer as they are, stays in
hunt or collects nothing. -/
theorem SyncStep.of_untouched {i : Instr} {s t : State} (hgap : i ≠ .idleGap := by simp)
    (hpush : ∀ b, i ≠ .pushByte b := by simp) (hcnt : t.asmCnt = s.asmCnt := by simp)
    (hstage : t.stage = s.stage := by simp) (hframe : t.frame = s.frame := by simp)
    (hcount : t.desyncCount = s.desyncCount := by simp)
    (hready : s.frameReady = false → t.frameReady = false := by simp) : SyncStep i s t := by
  have hnone : pushedBytes [i] = [] := by
    cases i with
    | pushByte b => exact absurd rfl (hpush b)
    | _ => rfl
  by_cases hs : s.asmCnt = 0
  · exact .hunt hs (hpush _) (hcnt.trans hs)
  · refine .collect hgap (fun h0 => absurd h0 hs) ⟨?_, hframe, hcount, hready⟩
    rw [hnone, List.append_nil, State.collected, State.collected, hcnt, hstage]

/-- Every operation takes one of these steps. -/
theorem Effect.syncStep {i : Instr} {s t : State} (h : Effect i s t) : SyncStep i s t := by
  cases h with
  | idle h =>
    cases h with
    | nop => exact .of_untouched
    | pushByte b h hb => exact .hunt h (fun hi => hb (Instr.pushByte.inj hi)) h
    | idleGap h => exact .gap h
    | decode h => exact .of_untouched
  | badCommand h =>
    cases h with
    | reserved op => exact .of_untouched
    | trackAdd u v h => exact .of_untouched
    | classifyTri u v h => exact .of_untouched
    | classifyBin u v h => exact .of_untouched
  | startByte h =>
    have hcollects := s.collects_stagePut startMark 1 (by rw [h]; rfl)
    rw [h] at hcollects
    exact .collect (by simp) (fun _ => rfl) hcollects
  | nextByte n h hn => exact .collect (by simp) (fun h0 => absurd h0 h) (s.collects_stagePut _ n hn)
  | badEnd h hb => exact .last h rfl
  | overrun h hr => exact .last h rfl
  | commit h hr => exact .last h rfl
  | gap h => exact .gap rfl
  | decode h => exact .of_untouched
  | encode => exact .of_untouched
  | trackAdd h => exact .of_untouched
  | classifyTri h => exact .of_untouched
  | classifyBin h => exact .of_untouched

end Sys2Proof.Machine
end

section
/-! A commit needs a full window (spec/40_frame_sync.md R106): by induction on the run, backwards from the open window. -/

namespace Sys2Proof.Machine

/-- The window of `t`, reached from `s` by `ops`, was opened by a start marker pushed in hunt, and holds that marker and
every byte pushed since, with no IDLE_GAP since (R106). -/
def OpenedBy (ops : List Instr) (s t : State) : Prop :=
  ∃ before rest w, ops = before ++ .pushByte startMark :: rest ∧ execAll before s = .next w ∧ w.asmCnt = 0 ∧
    (∀ j ∈ rest, j ≠ .idleGap) ∧ t.collected = startMark :: pushedBytes rest

/-- A start marker pushed in hunt as the last operation opens the window. -/
theorem OpenedBy.of_start {ops : List Instr} {s v t : State} (hv : execAll ops s = .next v) (h0 : v.asmCnt = 0)
    (h : v.Collects [startMark] t) : OpenedBy (ops ++ [.pushByte startMark]) s t :=
  ⟨ops, [], v, rfl, hv, h0, by simp, by rw [h.collected, State.collected_of_hunt h0]; rfl⟩

/-- A window stays open by the same start marker while operations collect. -/
theorem OpenedBy.concat {ops : List Instr} {i : Instr} {s v t : State} (hv : OpenedBy ops s v) (hi : i ≠ .idleGap)
    (h : v.Collects (pushedBytes [i]) t) : OpenedBy (ops ++ [i]) s t := by
  obtain ⟨before, rest, w, hops, hw, hhunt, hrest, hcol⟩ := hv
  refine ⟨before, rest ++ [i], w, by simp [hops], hw, hhunt, ?nogap, ?collected⟩
  case nogap => exact List.forall_mem_append.2 ⟨hrest, List.forall_mem_singleton.2 hi⟩
  case collected => rw [h.collected, hcol, pushedBytes_append, List.cons_append]

/-- Every window a run from hunt leaves open was opened in that run. -/
theorem openedBy_of_execAll {ops : List Instr} {s t : State} (hs : s.asmCnt = 0) (h : execAll ops s = .next t)
    (ht : t.asmCnt ≠ 0) : OpenedBy ops s t := by
  induction ops using List.reverseRecOn generalizing t with
  | nil => exact absurd (next_inj h ▸ hs) ht
  | append_singleton ops i ih =>
    obtain ⟨v, hv, hi⟩ := execAll_concat_next h
    cases (exec_effect hi).syncStep with
    | hunt _ _ h0 => exact absurd h0 ht
    | gap h0 => exact absurd h0 ht
    | last _ h0 => exact absurd h0 ht
    | collect hgap hstart hcollects =>
      by_cases h0 : v.asmCnt = 0
      · obtain rfl := hstart h0
        exact .of_start hv h0 hcollects
      · exact (ih hv h0).concat hgap hcollects

/-- A valid FRAME stays valid, since only a valid window replaces it (R22, R106). -/
theorem execAll_keeps_markerValid {ops : List Instr} {s t : State} (h : execAll ops s = .next t) (hs : s.stageInv)
    (hf : s.frame.markerValid) : t.frame.markerValid := by
  have hstep : ∀ i u v, Effect i u v → u.stageInv ∧ u.frame.markerValid → v.stageInv ∧ v.frame.markerValid := by
    rintro i u v he ⟨hu, hfu⟩
    refine ⟨he.keeps_stageInv hu, ?_⟩
    obtain hsame | hvalid := he.frame_eq_or_markerValid hu
    · rwa [hsame]
    · exact hvalid
  exact (execAll_keeps hstep h ⟨hs, hf⟩).2

/-- Settles O17: the operation that raises FRAME_READY commits the open window (`Effect.frameReady_rises`), and
`openedBy_of_execAll` says how that window was collected; its 24 bytes are the marker and the 23 pushed since. -/
theorem commitNeedsFullWindowFromStartMarker : Obligations.CommitNeedsFullWindowFromStartMarker := by
  unfold Obligations.CommitNeedsFullWindowFromStartMarker
  refine ⟨fun ops i s t u hs hops hi ht hu => ?commit, fun ops s t hs hf h => execAll_keeps_markerValid h hs hf⟩
  obtain ⟨rfl, h24, hframe⟩ := (exec_effect hi).frameReady_rises ht hu
  have hopen : t.asmCnt ≠ 0 := by rw [h24]; decide
  have hstage : t.stageInv := execAll_keeps (fun _ _ _ => Effect.keeps_stageInv) hops (State.stageInv_of_hunt hs)
  have hvalid : u.frame.markerValid := by
    rw [hframe, markerValid_set_last_iff]
    exact ⟨hstage hopen, rfl⟩
  obtain ⟨before, rest, w, hsplit, hw, hhunt, hgap, hcol⟩ := openedBy_of_execAll hs hops hopen
  have hlen : (pushedBytes rest).length + 1 = 24 := by
    rw [← List.length_cons, ← hcol, t.collected_length, h24]
    rfl
  have hbytes : u.frame.toList = startMark :: pushedBytes rest ++ [endMark] := by
    rw [hframe, State.toList_stage_set_last h24, hcol]
  exact ⟨rfl, h24, hvalid, before, rest, w, hsplit, hw, hhunt, hgap, Nat.succ.inj hlen, hbytes⟩

end Sys2Proof.Machine
end

section
/-! A valid frame pushed from hunt is committed (spec/40_frame_sync.md R107): by induction on the run, forwards from hunt. -/

namespace Sys2Proof.Machine

/-- An operation collects what it pushes unless it is an IDLE_GAP, begins no window in hunt, or pushes the 25th byte. -/
theorem SyncStep.collects {i : Instr} {s t : State} (h : SyncStep i s t) (hgap : i ≠ .idleGap)
    (hs : s.asmCnt = 0 → i = .pushByte startMark) (hroom : s.asmCnt.val + (pushedBytes [i]).length ≤ 24) :
    s.Collects (pushedBytes [i]) t := by
  cases h with
  | hunt h0 hi _ => exact absurd (hs h0) hi
  | gap _ => exact absurd rfl hgap
  | last h24 _ =>
    rw [h24] at hroom
    exact absurd hroom (Nat.not_succ_le_self 24)
  | collect _ _ h => exact h

/-- After an operation that collects, a window is open: the one before it, or the one its start marker opened. -/
theorem State.Collects.asmCnt_ne_zero {i : Instr} {s t : State} (h : s.Collects (pushedBytes [i]) t)
    (hs : s.asmCnt = 0 → i = .pushByte startMark) : t.asmCnt ≠ 0 := by
  intro ht
  have hcnt := h.asmCnt
  rw [ht] at hcnt
  obtain ⟨hs0, hlen⟩ := Nat.add_eq_zero_iff.1 hcnt.symm
  rw [hs (Fin.ext hs0)] at hlen
  exact absurd hlen (by decide)

/-- A run of at most 24 bytes with no IDLE_GAP, begun in a window or opening one, collects every byte it pushes. -/
theorem execAll_collects {ops : List Instr} {s t : State} (h : execAll ops s = .next t)
    (hgap : ∀ j ∈ ops, j ≠ .idleGap) (hs : s.asmCnt = 0 → ∃ rest, ops = .pushByte startMark :: rest)
    (hroom : s.asmCnt.val + (pushedBytes ops).length ≤ 24) : s.Collects (pushedBytes ops) t := by
  induction ops generalizing s with
  | nil => exact next_inj h ▸ .refl s
  | cons i ops ih =>
    obtain ⟨v, hv, ht⟩ := execAll_cons_next h
    obtain ⟨hgapi, hgapops⟩ := List.forall_mem_cons.1 hgap
    have hstart : s.asmCnt = 0 → i = .pushByte startMark := fun h0 => by
      obtain ⟨_, heq⟩ := hs h0
      exact (List.cons.inj heq).1
    rw [pushedBytes_cons, List.length_append] at hroom
    have hi : s.Collects (pushedBytes [i]) v := (exec_effect hv).syncStep.collects hgapi hstart (by omega)
    have hopen : v.asmCnt ≠ 0 := hi.asmCnt_ne_zero hstart
    have hcnt := hi.asmCnt
    rw [pushedBytes_cons]
    exact hi.trans (ih ht hgapops (fun h0 => absurd h0 hopen) (by omega))

/-- The window of a valid frame whose first 24 bytes are collected, completed by the frame's last byte, is the frame. -/
theorem stage_set_last_eq {f : Frame} {t : State} (hf : f.markerValid) (h24 : t.asmCnt = 24)
    (hcol : t.collected = f.toList.take 24) : t.stage.set 24 endMark = f := by
  apply Vector.toList_inj.1
  rw [State.toList_stage_set_last h24, hcol, ← toList_set_last, ← hf.2, Vector.set_getElem_self]

/-- Settles O18: `execAll_collects` gives the 24 bytes and the registers left as they were, `exec_pushByte_commit` the
commit of the last byte; IDLE_GAP reaches hunt by `Effect.idleGap_keeps_frames`. -/
theorem validFrameFromHuntIsCommitted : Obligations.ValidFrameFromHuntIsCommitted := by
  unfold Obligations.ValidFrameFromHuntIsCommitted
  refine ⟨fun f ops s t hf hs hgap hhead hpush h => ?commit, fun s => ?gap⟩
  case gap =>
    obtain ⟨t, ht⟩ := everyInstrCompletesInEveryState .idleGap s
    exact ⟨t, ht, (exec_effect ht).idleGap_keeps_frames.1⟩
  case commit =>
    have hlen : (pushedBytes ops).length = 24 := by rw [hpush]; simp
    rw [hf.1] at hhead
    have hcollects := execAll_collects h hgap (fun _ => hhead) (by simp [hs, hlen])
    have h24 : t.asmCnt = 24 := Fin.ext (by rw [hcollects.asmCnt, hs, hlen]; rfl)
    have hcol : t.collected = f.toList.take 24 := by
      rw [hcollects.collected, State.collected_of_hunt hs, hpush, List.nil_append]
    refine ⟨h24, hcollects.frame, hcollects.desyncCount, hcollects.frameReady, fun hr => ?_⟩
    rw [hf.2, exec_pushByte_commit h24 hr, stage_set_last_eq hf h24 hcol]

end Sys2Proof.Machine
end

section
/-! Packing and its fields (spec/30_encoding.md R71): a number below 2^(w·n) and its `n` fields of width `w` determine each
other. -/

namespace Sys2Proof.Machine

/-- Field `k` of a packed number is the `k`-th field packed. -/
theorem fieldAt_packFields (w : Nat) (l : List (BitVec w)) (k : Nat) : fieldAt w (packFields w l) k = l.getD k 0 := by
  apply BitVec.eq_of_getLsbD_eq
  intro j hj
  have hdiv : (w * k + j) / w = k := by rw [Nat.mul_add_div (by omega), Nat.div_eq_of_lt hj, Nat.add_zero]
  have hmod : (w * k + j) % w = j := by rw [Nat.mul_add_mod, Nat.mod_eq_of_lt hj]
  rw [fieldAt_getLsbD w _ k j hj, packFields_testBit w (by omega), hdiv, hmod]

/-- Packing all fields of a number gives the number back. -/
theorem packFields_eq_of_fieldAt {w P : Nat} {l : List (BitVec w)} (hw : 0 < w) (hP : P < 2 ^ (w * l.length))
    (hl : ∀ k < l.length, l.getD k 0 = fieldAt w P k) : packFields w l = P := by
  apply Nat.eq_of_testBit_eq
  intro p
  rw [packFields_testBit w hw]
  by_cases hp : p / w < l.length
  case pos => rw [hl _ hp, fieldAt_getLsbD w P _ _ (Nat.mod_lt p hw), Nat.div_add_mod]
  case neg =>
    have hge : w * l.length ≤ p := by
      rw [Nat.mul_comm]
      exact (Nat.le_div_iff_mul_le hw).1 (not_lt.1 hp)
    have hPp : P < 2 ^ p := hP.trans_le (Nat.pow_le_pow_right (by omega) hge)
    rw [List.getD_eq_default _ _ (not_lt.1 hp), Nat.testBit_lt_two_pow hPp]
    exact BitVec.getLsbD_zero

end Sys2Proof.Machine
end

section
/-! The payload between its two readings, 22 bytes and 16 channels (spec/41_codec.md R130, R133, R138): `decode` and
`encode` read and write the same number. -/

namespace Sys2Proof.Machine

/-- Byte `m` of the payload, read back as a field of it, is frame byte `1 + m` (R51). -/
theorem fieldAt_payload (f : Frame) (m : Nat) (hm : m < 22) : fieldAt 8 (payload f) m = f[1 + m] := by
  rw [payload, fieldAt_packFields, payload_bytes_getD f m hm, frame_getD]

/-- A number of 176 bits is the payload of a frame iff its bytes are the frame's bytes 1..22. -/
theorem payload_eq_iff (f : Frame) {P : Nat} (hP : P < 2 ^ 176) :
    payload f = P ↔ ∀ i (h : i < 25), 1 ≤ i → i ≤ 22 → f[i] = fieldAt 8 P (i - 1) := by
  constructor
  case mp =>
    rintro rfl i h h1 h22
    simp only [fieldAt_payload f (i - 1) (by omega), Nat.add_sub_cancel' h1]
  case mpr =>
    intro hf
    apply packFields_eq_of_fieldAt (by omega) (by rwa [payload_bytes_length])
    intro m hm
    rw [payload_bytes_length] at hm
    rw [payload_bytes_getD f m hm, frame_getD f (1 + m) (by omega), hf _ _ (by omega) (by omega), Nat.add_sub_cancel_left]

/-- The payload is bytes 1..22, no more and no less. -/
theorem payload_eq_payload_iff (f g : Frame) :
    payload f = payload g ↔ ∀ i (h : i < 25), 1 ≤ i → i ≤ 22 → f[i] = g[i] := by
  have hg := (payload_eq_iff g (payload_lt g)).1 rfl
  rw [payload_eq_iff f (payload_lt g)]
  constructor
  case mp => exact fun hf i h h1 h22 => (hf i h h1 h22).trans (hg i h h1 h22).symm
  case mpr => exact fun hfg i h h1 h22 => (hfg i h h1 h22).trans (hg i h h1 h22)

theorem channels_getD (ch : Vector Raw 16) (k : Nat) (hk : k < 16) : ch.toList.getD k 0 = ch[k] := by
  simp [List.getD_eq_getElem?_getD, hk]

theorem packFields_channels_lt (ch : Vector Raw 16) : packFields 11 ch.toList < 2 ^ 176 := by
  simpa using packFields_lt 11 ch.toList

/-- The decoded channels, packed again, are the payload. -/
theorem packFields_decodeFrame_ch (f : Frame) : packFields 11 (decodeFrame f).ch.toList = payload f := by
  apply packFields_eq_of_fieldAt (by omega) (by simpa using payload_lt f)
  intro k hk
  rw [Vector.length_toList] at hk
  rw [decodeFrame_ch_getD f k hk, decodeFrame_ch_getElem]

/-- The payload of an encoded frame is its channels, packed. -/
theorem payload_encodeFrame (c : ChannelSet) : payload (encodeFrame c) = packFields 11 c.ch.toList := by
  rw [payload_eq_iff _ (packFields_channels_lt c.ch)]
  intro i h h1 h22
  rw [encodeFrame_getElem, if_neg (by omega), if_pos h22]

theorem decodeFrame_encodeFrame_ch (c : ChannelSet) : (decodeFrame (encodeFrame c)).ch = c.ch := by
  apply Vector.ext
  intro k hk
  rw [decodeFrame_ch_getElem, payload_encodeFrame, fieldAt_packFields, channels_getD c.ch k hk]

/-- The decoded channels are equal exactly when the payloads are. -/
theorem decodeFrame_ch_eq_iff (f g : Frame) : (decodeFrame f).ch = (decodeFrame g).ch ↔ payload f = payload g := by
  constructor
  case mp =>
    intro h
    rw [← packFields_decodeFrame_ch f, h, packFields_decodeFrame_ch]
  case mpr =>
    intro h
    apply Vector.ext
    intro k hk
    rw [decodeFrame_ch_getElem, decodeFrame_ch_getElem, h]

/-- Settles O31: the channels determine the payload and the payload its bytes; `encode` finds a frame for every tuple. -/
theorem payloadsAndChannelsCorrespond : Obligations.PayloadsAndChannelsCorrespond := by
  unfold Obligations.PayloadsAndChannelsCorrespond
  refine ⟨fun f g h => ?injective, fun ch => ?onto⟩
  case injective => rwa [decodeFrame_ch_eq_iff, payload_eq_payload_iff] at h
  case onto =>
    exact ⟨encodeFrame { ch := ch, d17 := false, d18 := false, status := .ok }, decodeFrame_encodeFrame_ch _⟩

end Sys2Proof.Machine
end

section
/-! The flag byte as five fields (spec/30_encoding.md R73): the bits of d17, d18, LOST and FS, and the reserved bits 7:4;
and the status between its two flag bits and its code (spec/41_codec.md R132, R133). -/

namespace Sys2Proof.Machine

/-- Two bytes are equal iff their flag bits and their reserved bits are. -/
theorem flagFields_ext_iff (x y : Byte) :
    x = y ↔ x.getLsbD 0 = y.getLsbD 0 ∧ x.getLsbD 1 = y.getLsbD 1 ∧ x.getLsbD 2 = y.getLsbD 2 ∧
      x.getLsbD 3 = y.getLsbD 3 ∧ x.extractLsb' 4 4 = y.extractLsb' 4 4 := by
  constructor
  case mp => rintro rfl; exact ⟨rfl, rfl, rfl, rfl, rfl⟩
  case mpr =>
    rintro ⟨h0, h1, h2, h3, hres⟩
    apply BitVec.eq_of_getLsbD_eq
    intro j hj
    obtain rfl | rfl | rfl | rfl | hhigh : j = 0 ∨ j = 1 ∨ j = 2 ∨ j = 3 ∨ 4 ≤ j := by omega
    case inl => exact h0
    case inr.inl => exact h1
    case inr.inr.inl => exact h2
    case inr.inr.inr.inl => exact h3
    case inr.inr.inr.inr =>
      have hbit := congrArg (fun v => v.getLsbD (j - 4)) hres
      simpa [show j - 4 < 4 by omega, Nat.add_sub_cancel' hhigh] using hbit

theorem Status.lostBit_eq_decide (st : Status) :
    st.lostBit = decide (st = .lost ∨ st = .failsafe ∨ st = .reserved3) := by
  cases st <;> rfl

theorem Status.fsBit_eq_decide (st : Status) : st.fsBit = decide (st = .failsafe ∨ st = .reserved3) := by
  cases st <;> rfl

theorem statusOfFlags_lostBit (b : Byte) : (statusOfFlags b).lostBit = (b.getLsbD 3 || b.getLsbD 2) := by
  unfold statusOfFlags
  cases b.getLsbD 3 <;> cases b.getLsbD 2 <;> rfl

theorem statusOfFlags_fsBit (b : Byte) : (statusOfFlags b).fsBit = b.getLsbD 3 := by
  unfold statusOfFlags
  cases b.getLsbD 3 <;> cases b.getLsbD 2 <;> rfl

/-- The status that comes back from its own flag bits: code 3 as FAILSAFE, every other as itself (R137). -/
theorem statusOfFlags_flagByte (c : ChannelSet) :
    statusOfFlags (flagByte c) = if c.status = .reserved3 then .failsafe else c.status := by
  obtain ⟨-, -, hlost, hfs, -⟩ := flagByte_bits c
  rw [statusOfFlags, hlost, hfs]
  cases c.status <;> rfl

theorem decodeFrame_status (f : Frame) : (decodeFrame f).status = statusOfFlags f[23] := rfl

/-- The flag byte of a decoded frame is the frame's own iff the reserved bits are 0 and FS comes only with LOST. -/
theorem flagByte_decodeFrame_eq_iff (f : Frame) :
    flagByte (decodeFrame f) = f[23] ↔ f[23].extractLsb' 4 4 = 0 ∧ (f[23].getLsbD 3 = true → f[23].getLsbD 2 = true) := by
  obtain ⟨h0, h1, hlost, hfs, hres⟩ := flagByte_bits (decodeFrame f)
  rw [decodeFrame_status, statusOfFlags_lostBit] at hlost
  rw [decodeFrame_status, statusOfFlags_fsBit] at hfs
  rw [flagFields_ext_iff, h0, h1, hlost, hfs, hres, eq_comm (a := (0 : BitVec 4)), Bool.or_eq_right_iff_imp]
  constructor
  case mp => rintro ⟨-, -, hfsLost, -, hzero⟩; exact ⟨hzero, hfsLost⟩
  case mpr => rintro ⟨hzero, hfsLost⟩; exact ⟨rfl, rfl, hfsLost, rfl, hzero⟩

end Sys2Proof.Machine
end

section
/-! `decode` and `encode` of a whole frame (spec/41_codec.md R130 to R133, R136, R137), put together from its parts: the two
markers, the payload and the flag byte. -/

namespace Sys2Proof.Machine

/-- A frame is its start byte, its payload, its flag byte and its end byte (R70). -/
theorem frame_ext_iff (f g : Frame) : f = g ↔ f[0] = g[0] ∧ payload f = payload g ∧ f[23] = g[23] ∧ f[24] = g[24] := by
  constructor
  case mp => rintro rfl; exact ⟨rfl, rfl, rfl, rfl⟩
  case mpr =>
    rintro ⟨hstart, hpayload, hflags, hend⟩
    rw [payload_eq_payload_iff] at hpayload
    apply Vector.ext
    intro i hi
    obtain rfl | hmid | rfl | rfl : i = 0 ∨ (1 ≤ i ∧ i ≤ 22) ∨ i = 23 ∨ i = 24 := by omega
    case inl => exact hstart
    case inr.inl => exact hpayload i hi hmid.1 hmid.2
    case inr.inr.inl => exact hflags
    case inr.inr.inr => exact hend

theorem encodeFrame_start (c : ChannelSet) : (encodeFrame c)[0] = startMark := encodeFrame_getElem c 0 (by omega)

theorem encodeFrame_flags (c : ChannelSet) : (encodeFrame c)[23] = flagByte c := encodeFrame_getElem c 23 (by omega)

theorem encodeFrame_end (c : ChannelSet) : (encodeFrame c)[24] = endMark := encodeFrame_getElem c 24 (by omega)

/-- Settles O29: `encode` after `decode` keeps every payload, so the frame comes back iff its markers are those `encode`
writes and its flag byte is one `encode` writes (`flagByte_decodeFrame_eq_iff`). -/
theorem encodeAfterDecodeIsIdentityIff : Obligations.EncodeAfterDecodeIsIdentityIff := by
  unfold Obligations.EncodeAfterDecodeIsIdentityIff
  intro f
  have hpayload : payload (encodeFrame (decodeFrame f)) = payload f := by
    rw [payload_encodeFrame, packFields_decodeFrame_ch]
  rw [frame_ext_iff, encodeFrame_start, encodeFrame_flags, encodeFrame_end, flagByte_decodeFrame_eq_iff,
    eq_comm (a := startMark), eq_comm (a := endMark)]
  constructor
  case mp => rintro ⟨hstart, -, hflags, hend⟩; exact ⟨⟨hstart, hend⟩, hflags⟩
  case mpr => rintro ⟨⟨hstart, hend⟩, hflags⟩; exact ⟨hstart, hpayload, hflags, hend⟩

/-- `decode` after `encode`: the status as its flag bits give it back, all else unchanged. -/
theorem decodeFrame_encodeFrame (c : ChannelSet) :
    decodeFrame (encodeFrame c) = { c with status := if c.status = .reserved3 then .failsafe else c.status } := by
  obtain ⟨hd17, hd18, -⟩ := flagByte_bits c
  calc decodeFrame (encodeFrame c)
      = { ch := (decodeFrame (encodeFrame c)).ch, d17 := (encodeFrame c)[23].getLsbD 0,
          d18 := (encodeFrame c)[23].getLsbD 1, status := statusOfFlags (encodeFrame c)[23] } := rfl
    _ = _ := by rw [decodeFrame_encodeFrame_ch, encodeFrame_flags, hd17, hd18, statusOfFlags_flagByte]

/-- Settles O30: the two values of the status in `decodeFrame_encodeFrame`. -/
theorem decodeAfterEncodeIsIdentity : Obligations.DecodeAfterEncodeIsIdentity := by
  unfold Obligations.DecodeAfterEncodeIsIdentity
  intro c
  rw [decodeFrame_encodeFrame]
  exact ⟨fun h => by rw [if_neg h], fun h => by rw [if_pos h]⟩

/-- What `decode` reads: the payload and the four low flag bits (R130). -/
theorem decodeFrame_congr {f g : Frame} (hpayload : payload f = payload g)
    (hflags : ∀ j < 4, f[23].getLsbD j = g[23].getLsbD j) : decodeFrame f = decodeFrame g := by
  simp only [decodeFrame, statusOfFlags, hpayload, hflags 0 (by omega), hflags 1 (by omega), hflags 2 (by omega),
    hflags 3 (by omega)]

/-- Settles O22: a channel is a field of `payload`, which is the sum the statement writes; the flag bits are read as
written; that nothing else is read is `decodeFrame_congr`. -/
theorem decodeFrameFollowsPseudocode : Obligations.DecodeFrameFollowsPseudocode := by
  unfold Obligations.DecodeFrameFollowsPseudocode
  refine ⟨fun f => ?fields, fun f g hbytes hflags => ?unread⟩
  case fields =>
    rw [← payload_eq_sum f]
    exact ⟨fun k hk => by rw [decodeFrame_ch_getElem, fieldAt_toNat], rfl, rfl, rfl⟩
  case unread => exact decodeFrame_congr ((payload_eq_payload_iff f g).2 hbytes) hflags

theorem payload_set_flags (f : Frame) (b : Byte) : payload (f.set 23 b) = payload f := by
  rw [payload_eq_payload_iff]
  intro i h _ h22
  exact Vector.getElem_set_ne (by omega) h (by omega)

/-- Settles O25: the branches of `statusOfFlags`, and the channels, which are fields of the payload alone. -/
theorem flagByteClassifiesStatus : Obligations.FlagByteClassifiesStatus := by
  unfold Obligations.FlagByteClassifiesStatus
  refine ⟨fun f => ⟨rfl, rfl, fun hfs => if_pos hfs, fun hfs hlost => ?lost, fun hfs hlost => ?ok⟩, fun f b => ?channels⟩
  case lost => simp only [decodeFrame_status, statusOfFlags, hfs, hlost, Bool.false_eq_true, if_false, if_true]
  case ok => simp only [decodeFrame_status, statusOfFlags, hfs, hlost, Bool.false_eq_true, if_false]
  case channels => rw [decodeFrame_ch_eq_iff, payload_set_flags]

/-- Payload byte `m` of an encoded frame (R133). -/
theorem encodeFrame_payloadByte (c : ChannelSet) (m : Nat) (hm : m < 22) :
    (encodeFrame c).toList.getD (1 + m) 0 = fieldAt 8 (packFields 11 c.ch.toList) m := by
  rw [frame_getD _ (1 + m) (by omega), ← fieldAt_payload _ m hm, payload_encodeFrame]

/-- Settles O26: the packed channels are the sum the statement writes and the payload bytes are its fields; the flag bits
are `flagByte_bits`. -/
theorem encodeFrameFollowsPseudocode : Obligations.EncodeFrameFollowsPseudocode := by
  unfold Obligations.EncodeFrameFollowsPseudocode
  intro c
  have hsum := packFields_eq_sum 11 c.ch.toList
  rw [Vector.length_toList] at hsum
  have hbits := flagByte_bits c
  rw [← encodeFrame_flags] at hbits
  obtain ⟨hd17, hd18, hlost, hfs, hres⟩ := hbits
  rw [← hsum]
  refine ⟨encodeFrame_start c, encodeFrame_end c, fun m hm => ?byte, hd17, hd18, ?lost, ?failsafe, hres⟩
  case byte => rw [encodeFrame_payloadByte c m hm, fieldAt_toNat]
  case lost => exact hlost.trans (c.status.lostBit_eq_decide)
  case failsafe => exact hfs.trans (c.status.fsBit_eq_decide)

end Sys2Proof.Machine
end

section
/-! The operations DECODE and ENCODE (spec/41_codec.md R134, R135): their effects are constructors of `Effect`. -/

namespace Sys2Proof.Machine

/-- After DECODE no frame is ready: it consumed the frame, or there was none. -/
theorem Effect.decode_frameReady {s t : State} (h : Effect .decode s t) : t.frameReady = false := by
  cases h with
  | idle h => cases h with | decode h => exact h
  | badCommand h => cases h
  | decode _ => rfl

/-- Settles O27: the two effects of DECODE; a second one finds no frame ready (`Effect.decode_frameReady`), where it is
idle. -/
theorem decodeConsumesReadyFrame : Obligations.DecodeConsumesReadyFrame := by
  unfold Obligations.DecodeConsumesReadyFrame
  intro s
  have hidle {t : State} (h : t.frameReady = false) : exec .decode t = .next t := exec_of_effect (.idle (.decode h))
  exact ⟨fun h => exec_of_effect (.decode h), hidle, fun t h => hidle (exec_effect h).decode_frameReady, by decide⟩

/-- The one effect of ENCODE as the record of R135. -/
theorem exec_encode (s : State) :
    exec .encode s = .next { s with txFrame := encodeFrame s.pins.enc, evt := some .encoded } :=
  exec_of_effect .encode

/-- Settles O28: ENCODE reads the `enc_*` ports alone (`exec_encode`) and leaves them as they are, so a second
one writes the same frame. -/
theorem encodeWritesOnlyTxFrame : Obligations.EncodeWritesOnlyTxFrame := by
  unfold Obligations.EncodeWritesOnlyTxFrame
  intro s
  refine ⟨exec_encode s, fun t h => ?again, by decide⟩
  rw [exec_encode] at h
  obtain rfl := next_inj h
  simp only [exec_encode, State.pins]

end Sys2Proof.Machine
end

section
/-! What R7 says of the parameters of a tracker (spec/00_scope.md), and the threshold of R163. -/

namespace Sys2Proof

theorem Config.one_le_n {c : Config} (h : c.ok = true) : 1 ≤ c.n := by
  simp only [Config.ok, Bool.and_eq_true, decide_eq_true_eq] at h
  omega

theorem Config.levels {c : Config} (h : c.ok = true) : c.releasedLevel < c.activeLevel ∧ c.activeLevel ≤ 2047 := by
  simp only [Config.ok, Bool.and_eq_true, decide_eq_true_eq] at h
  omega

theorem Config.releasedSample_toNat {c : Config} (h : c.ok = true) :
    (BitVec.ofNat 11 c.releasedLevel).toNat = c.releasedLevel := by
  obtain ⟨hlt, hle⟩ := Config.levels h
  exact BitVec.toNat_ofNat .. ▸ Nat.mod_eq_of_lt (by omega)

/-- The part of N the threshold gives to the released level, ⌈N/2⌉, is what ⌊N/2⌋ leaves. -/
theorem Config.majThresh_eq (c : Config) :
    c.majThresh = c.n / 2 * c.activeLevel + (c.n - c.n / 2) * c.releasedLevel := by
  rw [Config.majThresh, show (c.n + 1) / 2 = c.n - c.n / 2 by omega]

theorem Config.released_sum_le_majThresh {c : Config} (hok : c.ok = true) : c.n * c.releasedLevel ≤ c.majThresh := by
  calc c.n * c.releasedLevel = c.n / 2 * c.releasedLevel + (c.n - c.n / 2) * c.releasedLevel := by
        rw [← Nat.add_mul, Nat.add_sub_cancel' (Nat.div_le_self _ _)]
    _ ≤ c.majThresh := by
        rw [c.majThresh_eq]
        exact Nat.add_le_add_right (Nat.mul_le_mul_left _ (Config.levels hok).1.le) _

end Sys2Proof
end

section
/-! What an operation and a run do to one tracker (spec/42_tracker.md R160, R161): tracker `t` takes exactly the samples
`addedSamples t` lists, in order, and nothing else writes it. -/

namespace Sys2Proof.Machine

/-- R39: no operation writes the parameters. -/
theorem Effect.keeps_cfg {i : Instr} {s s' : State} (h : Effect i s s') : s'.cfg = s.cfg := by
  cases h <;> simp

/-- TRACK_ADD with its unit in range has one effect. -/
theorem Effect.trackAdd_eq {u : UnitIx} {v : Raw} {s s' : State} (h : Effect (.trackAdd u v) s s')
    (hu : u.toNat < s.cfg.nt) : s' = s.updateTracker u.toNat (Tracker.add s.cfg.n v) :=
  next_inj ((exec_of_effect (.trackAdd hu)).symm.trans (exec_of_effect h))

/-- R160, the frame: only TRACK_ADD on unit `t` writes tracker `t`. -/
theorem Effect.trk_getElem?_of_other {i : Instr} {s s' : State} {t : Nat} (h : Effect i s s')
    (hi : ∀ u v, i = .trackAdd u v → u.toNat ≠ t) : s'.trk[t]? = s.trk[t]? := by
  cases h with
  | trackAdd hu => rw [State.updateTracker_trk, List.getElem?_modify_ne _ _ (hi _ _ rfl)]
  | _ => simp

theorem addedSamples_cons (t : Nat) (i : Instr) (ops : List Instr) :
    addedSamples t (i :: ops) = addedSamples t [i] ++ addedSamples t ops :=
  addedSamples_append t [i] ops

theorem addedSamples_self (u : UnitIx) (v : Raw) : addedSamples u.toNat [.trackAdd u v] = [v] := by
  simp [addedSamples, unitOf]

theorem addedSamples_of_other {i : Instr} {t : Nat} (hi : ∀ u v, i = .trackAdd u v → u.toNat ≠ t) :
    addedSamples t [i] = [] := by
  cases i with
  | trackAdd u v => simp [addedSamples, unitOf, hi u v rfl]
  | _ => rfl

/-- A tracker after samples added one after another. -/
def Tracker.addAll (n : Nat) (vs : List Raw) (tr : Tracker) : Tracker := vs.foldl (fun tr v => tr.add n v) tr

@[simp] theorem Tracker.addAll_nil (n : Nat) : Tracker.addAll n [] = id := rfl

@[simp] theorem Tracker.addAll_cons (n : Nat) (v : Raw) (vs : List Raw) (tr : Tracker) :
    tr.addAll n (v :: vs) = (tr.add n v).addAll n vs := rfl

theorem Tracker.addAll_append (n : Nat) (vs ws : List Raw) :
    Tracker.addAll n (vs ++ ws) = Tracker.addAll n ws ∘ Tracker.addAll n vs := funext fun _ => List.foldl_append

/-- What an operation does to a tracker of the block, whether it is the tracker's own TRACK_ADD or not. -/
theorem Effect.trk_getElem? {i : Instr} {s s' : State} {t : Nat} (h : Effect i s s') (ht : t < s.cfg.nt) :
    s'.trk[t]? = s.trk[t]?.map (Tracker.addAll s.cfg.n (addedSamples t [i])) := by
  by_cases hi : ∀ u v, i = .trackAdd u v → u.toNat ≠ t
  case pos => simp [h.trk_getElem?_of_other hi, addedSamples_of_other hi]
  case neg =>
    push Not at hi
    obtain ⟨u, v, rfl, rfl⟩ := hi
    rw [h.trackAdd_eq ht, addedSamples_self, State.updateTracker_trk, List.getElem?_modify_eq]
    rfl

/-- A run adds to a tracker of the block the samples its operations list, in order. -/
theorem execAll_trk_getElem? {ops : List Instr} {s s' : State} {t : Nat} (h : execAll ops s = .next s')
    (ht : t < s.cfg.nt) : s'.trk[t]? = s.trk[t]?.map (Tracker.addAll s.cfg.n (addedSamples t ops)) := by
  induction ops generalizing s with
  | nil => rw [next_inj h]; exact (Option.map_id_apply).symm
  | cons i ops ih =>
    obtain ⟨w, hw, hrest⟩ := execAll_cons_next h
    have hi := exec_effect hw
    have hcfg := hi.keeps_cfg
    rw [ih hrest (hcfg ▸ ht), hi.trk_getElem? ht, hcfg, Option.map_map, ← Tracker.addAll_append,
      ← addedSamples_cons]

/-- From reset, tracker `t` is a fresh one with the listed samples added. -/
theorem execAll_trk_of_reset {c : Config} {ops : List Instr} {s : State} {t : Nat} (ht : t < c.nt)
    (h : execAll ops (State.resetWith c) = .next s) :
    s.trk[t]? = some ((Tracker.reset c).addAll c.n (addedSamples t ops)) := by
  have hrun := execAll_trk_getElem? h ht
  rwa [State.resetWith, List.getElem?_replicate_of_lt ht] at hrun

theorem execAll_cfg {ops : List Instr} {s s' : State} (h : execAll ops s = .next s') : s'.cfg = s.cfg :=
  execAll_keeps (P := fun u => u.cfg = s.cfg) (fun _ _ _ hi hu => hi.keeps_cfg.trans hu) h rfl

end Sys2Proof.Machine
end

section
/-! The window of a tracker (spec/42_tracker.md R160): each sample pushes out the oldest. -/

namespace Sys2Proof.Machine

theorem Tracker.reset_inv {c : Config} (hn : 1 ≤ c.n) : (Tracker.reset c).inv c := ⟨List.length_replicate, hn⟩

theorem Tracker.addAll_inv {c : Config} (hn : 1 ≤ c.n) (vs : List Raw) {tr : Tracker} (h : tr.inv c) :
    (tr.addAll c.n vs).inv c := by
  induction vs generalizing tr with
  | nil => exact h
  | cons v vs ih => exact ih (tr.add_inv c hn v h)

theorem Tracker.byAge_length (tr : Tracker) : tr.byAge.length = tr.win.length := tr.byAge_perm.length_eq

/-- The window by age after samples were added: what was there followed by them, less as many of the oldest. -/
theorem Tracker.byAge_addAll {c : Config} (hn : 1 ≤ c.n) (vs : List Raw) {tr : Tracker} (h : tr.inv c) :
    (tr.addAll c.n vs).byAge = (tr.byAge ++ vs).drop vs.length := by
  induction vs generalizing tr with
  | nil => simp
  | cons v vs ih =>
    have hlen : 1 ≤ tr.byAge.length := by rw [tr.byAge_length, h.1]; exact hn
    have hdrop : tr.byAge.drop 1 ++ v :: vs = (tr.byAge ++ v :: vs).drop 1 :=
      (List.drop_append_of_le_length hlen).symm
    rw [Tracker.addAll_cons, ih (tr.add_inv c hn v h), tr.byAge_add c.n v h.1 h.2, List.append_assoc,
      List.singleton_append, hdrop, List.drop_drop, List.length_cons, Nat.add_comm]

theorem Tracker.reset_byAge (c : Config) :
    (Tracker.reset c).byAge = List.replicate c.n (BitVec.ofNat 11 c.releasedLevel) :=
  List.append_nil _

/-- The last N of the N released samples of a fresh tracker followed by `vs`. -/
def lastSamples (c : Config) (vs : List Raw) : List Raw :=
  (List.replicate c.n (BitVec.ofNat 11 c.releasedLevel) ++ vs).drop vs.length

theorem Tracker.win_perm_lastSamples {c : Config} (hn : 1 ≤ c.n) (vs : List Raw) :
    ((Tracker.reset c).addAll c.n vs).win.Perm (lastSamples c vs) := by
  rw [lastSamples, ← Tracker.reset_byAge, ← Tracker.byAge_addAll hn vs (Tracker.reset_inv hn)]
  exact (Tracker.byAge_perm _).symm

/-- Settles O36: from reset a run adds the listed samples to tracker `t` (`execAll_trk_of_reset`), which then holds the
last N of them and of the released ones (`Tracker.byAge_addAll`). -/
theorem windowHoldsTheLastSamples : Obligations.WindowHoldsTheLastSamples := by
  unfold Obligations.WindowHoldsTheLastSamples
  refine ⟨fun c ops s t hok ht h => ?window, fun i s s' t h hi => (exec_effect h).trk_getElem?_of_other hi⟩
  have hn := Config.one_le_n hok
  exact ⟨_, execAll_trk_of_reset ht h, (Tracker.addAll_inv hn _ (Tracker.reset_inv hn)).1,
    Tracker.win_perm_lastSamples hn _⟩

end Sys2Proof.Machine
end

section
/-! Windows of the two levels (spec/42_tracker.md R163 to R165). -/

namespace Sys2Proof.Machine

/-- The active samples of a list. -/
def activeCount (c : Config) (l : List Raw) : Nat := l.countP fun v => v.toNat == c.activeLevel

/-- Every sample of the list is one of the two levels. -/
def TwoLevel (c : Config) (l : List Raw) : Prop := ∀ v ∈ l, v.toNat = c.activeLevel ∨ v.toNat = c.releasedLevel

/-- R164: the order of the samples does not matter. -/
theorem TwoLevel.sum_eq {c : Config} {l : List Raw} (h : TwoLevel c l) :
    (l.map BitVec.toNat).sum = activeCount c l * c.activeLevel + (l.length - activeCount c l) * c.releasedLevel := by
  induction l with
  | nil => simp [activeCount]
  | cons v l ih =>
    obtain ⟨hv, hl⟩ := List.forall_mem_cons.1 h
    have hle : activeCount c l ≤ l.length := List.countP_le_length
    rw [List.map_cons, List.sum_cons, ih hl, List.length_cons]
    by_cases hA : v.toNat = c.activeLevel
    · have hcount : activeCount c (v :: l) = activeCount c l + 1 := by simp [activeCount, hA]
      rw [hcount, hA, Nat.add_sub_add_right]
      ring
    · have hcount : activeCount c (v :: l) = activeCount c l := by simp [activeCount, hA]
      rw [hcount, hv.resolve_left hA, Nat.sub_add_comm hle]
      ring

/-- R164: `k` active samples of `n` against the threshold, whose window has `n / 2` active ones. -/
theorem twoLevel_gt_iff {n k m a r : Nat} (hk : k ≤ n) (hm : m ≤ n) :
    k * a + (n - k) * r > m * a + (n - m) * r ↔ ((k : Int) - m) * ((a : Int) - r) > 0 := by
  zify [hk, hm]
  have hdiff : (k * a + (n - k) * r : Int) - (m * a + (n - m) * r) = (k - m) * (a - r) := by ring
  rw [← hdiff]
  exact sub_pos.symm

theorem Tracker.sum_of_twoLevel {c : Config} {tr : Tracker} (hlen : tr.win.length = c.n) (h : TwoLevel c tr.win) :
    tr.sum = activeCount c tr.win * c.activeLevel + (c.n - activeCount c tr.win) * c.releasedLevel :=
  hlen ▸ h.sum_eq

theorem Tracker.sum_gt_iff_of_twoLevel {c : Config} {tr : Tracker} (hlen : tr.win.length = c.n)
    (h : TwoLevel c tr.win) :
    tr.sum > c.majThresh ↔
      ((activeCount c tr.win : Int) - (c.n / 2 : Nat)) * ((c.activeLevel : Int) - c.releasedLevel) > 0 := by
  have hk : activeCount c tr.win ≤ c.n := hlen ▸ List.countP_le_length
  rw [Tracker.sum_of_twoLevel hlen h, c.majThresh_eq]
  exact twoLevel_gt_iff hk (Nat.div_le_self _ _)

theorem Tracker.maj_iff_sum_gt (c : Config) (tr : Tracker) : tr.maj c = true ↔ tr.sum > c.majThresh :=
  decide_eq_true_iff

/-- A − R is positive, so the sign of the product is that of k − ⌊N/2⌋. -/
theorem Tracker.maj_iff_of_twoLevel {c : Config} {tr : Tracker} (hok : c.ok = true) (hlen : tr.win.length = c.n)
    (h : TwoLevel c tr.win) : tr.maj c = true ↔ 2 * activeCount c tr.win > c.n := by
  have hgap : 0 < (c.activeLevel : Int) - c.releasedLevel := sub_pos.2 (Nat.cast_lt.2 (Config.levels hok).1)
  rw [Tracker.maj_iff_sum_gt, Tracker.sum_gt_iff_of_twoLevel hlen h, gt_iff_lt, mul_pos_iff_of_pos_right hgap]
  omega

/-- Settles O35: a two-level window and the threshold are the same sum, for `k` and for `n / 2` active samples. -/
theorem majorityMeansStrictMajority : Obligations.MajorityMeansStrictMajority := by
  unfold Obligations.MajorityMeansStrictMajority
  intro c tr hok hlen htwo
  exact ⟨Tracker.sum_of_twoLevel hlen htwo, Tracker.sum_gt_iff_of_twoLevel hlen htwo,
    Tracker.maj_iff_of_twoLevel hok hlen htwo⟩

theorem bit_eq_one_iff (b : Bool) : bit b = 1 ↔ b = true := by cases b <;> decide

theorem State.outputs_trkMaj_getElem? {s : State} {t : Nat} {tr : Tracker} (h : s.trk[t]? = some tr) :
    s.outputs.trkMaj[t]? = some (bit (tr.maj s.cfg)) := by
  simp [State.outputs, h]

/-- Settles O34: the output bit is `Tracker.maj`, and R163's ⌈N/2⌉ is N − ⌊N/2⌋ (`Config.majThresh_eq`). -/
theorem majorityIsSumAboveThreshold : Obligations.MajorityIsSumAboveThreshold := by
  unfold Obligations.MajorityIsSumAboveThreshold
  refine ⟨fun s t tr h => ?output, fun c hn ha hr => by rw [Config.majThresh, hn, ha, hr]⟩
  rw [State.outputs_trkMaj_getElem? h, Option.some_inj, bit_eq_one_iff, Tracker.maj_iff_sum_gt,
    Config.majThresh_eq]

/-- The last samples are among the released ones and those added. -/
theorem lastSamples_sublist (c : Config) (vs : List Raw) :
    (lastSamples c vs).Sublist (List.replicate c.n (BitVec.ofNat 11 c.releasedLevel) ++ vs) :=
  List.drop_sublist _ _

theorem lastSamples_twoLevel {c : Config} (hok : c.ok = true) {vs : List Raw} (h : TwoLevel c vs) :
    TwoLevel c (lastSamples c vs) := by
  intro v hv
  rcases List.mem_append.1 ((lastSamples_sublist c vs).subset hv) with hrel | hadd
  · rw [List.eq_of_mem_replicate hrel]
    exact .inr (Config.releasedSample_toNat hok)
  · exact h v hadd

/-- Released samples are not active, so a window has no more active samples than were added. -/
theorem activeCount_lastSamples_le {c : Config} (hok : c.ok = true) (vs : List Raw) :
    activeCount c (lastSamples c vs) ≤ activeCount c vs := by
  have hne : c.releasedLevel ≠ c.activeLevel := (Config.levels hok).1.ne
  calc activeCount c (lastSamples c vs)
      ≤ activeCount c (List.replicate c.n (BitVec.ofNat 11 c.releasedLevel) ++ vs) :=
        (lastSamples_sublist c vs).countP_le
    _ = activeCount c vs := by
        simp [activeCount, List.countP_append, List.countP_replicate, Config.releasedSample_toNat hok, hne]

/-- R165 for one tracker: with at most ⌊N/2⌋ active samples added, no strict majority of its window is active. -/
theorem Tracker.maj_of_few_active {c : Config} (hok : c.ok = true) {vs : List Raw} (htwo : TwoLevel c vs)
    (hfew : activeCount c vs < c.n / 2 + 1) : ((Tracker.reset c).addAll c.n vs).maj c = false := by
  have hn := Config.one_le_n hok
  have hlen : ((Tracker.reset c).addAll c.n vs).win.length = c.n := (Tracker.addAll_inv hn vs (Tracker.reset_inv hn)).1
  have hperm := Tracker.win_perm_lastSamples hn vs
  have hwin : TwoLevel c ((Tracker.reset c).addAll c.n vs).win :=
    fun v hv => lastSamples_twoLevel hok htwo v (hperm.subset hv)
  have hcount : activeCount c ((Tracker.reset c).addAll c.n vs).win ≤ activeCount c vs :=
    (hperm.countP_eq _).trans_le (activeCount_lastSamples_le hok vs)
  rw [← Bool.not_eq_true, Tracker.maj_iff_of_twoLevel hok hlen hwin]
  omega

theorem Tracker.reset_sum {c : Config} (hok : c.ok = true) : (Tracker.reset c).sum = c.n * c.releasedLevel := by
  simp [Tracker.sum, Tracker.reset, Config.releasedSample_toNat hok]

/-- Settles O37: a run only adds samples to tracker `t` (`execAll_trk_of_reset`), and `Tracker.maj_of_few_active` says
what they come to. -/
theorem coldStartNeverReportsActive : Obligations.ColdStartNeverReportsActive := by
  unfold Obligations.ColdStartNeverReportsActive
  refine ⟨fun c hok => ⟨Tracker.reset_sum hok, ?fresh⟩, fun c ops s t hok ht h htwo hfew => ?run⟩
  case fresh => exact (Tracker.reset_sum hok).trans_le (Config.released_sum_le_majThresh hok)
  case run =>
    have hcfg : s.cfg = c := execAll_cfg h
    rw [State.outputs_trkMaj_getElem? (execAll_trk_of_reset ht h), hcfg, Tracker.maj_of_few_active hok htwo hfew]
    rfl

end Sys2Proof.Machine
end

section
/-! The sum of a window and its width (spec/42_tracker.md R162). -/

namespace Sys2Proof.Machine

theorem lt_two_pow_bitLength (n : Nat) : n < 2 ^ bitLength n := by
  unfold bitLength
  split
  case isTrue h => simp [h]
  case isFalse => exact Nat.lt_log2_self

/-- Reading a list slot by slot gives the list. -/
theorem map_getD_range {α β : Type} (f : α → β) (d : α) (l : List α) :
    (List.range l.length).map (fun j => f (l.getD j d)) = l.map f := by
  apply List.ext_getElem (by simp)
  intro j _ hj
  have hjl : j < l.length := by simpa using hj
  simp [hjl]

theorem Tracker.sum_le (tr : Tracker) : tr.sum ≤ tr.win.length * 2047 := by
  have hslot : ∀ x ∈ tr.win.map BitVec.toNat, x ≤ 2047 := by
    intro x hx
    obtain ⟨v, -, rfl⟩ := List.mem_map.1 hx
    exact Nat.le_of_lt_succ v.isLt
  simpa [Tracker.sum] using List.sum_le_card_nsmul _ _ hslot

/-- Settles O33: the invariant gives the window its N slots, each below 2^11, and N·2047 is below 2 to its own bit
length. -/
theorem trackerSumIsExactAndFits : Obligations.TrackerSumIsExactAndFits := by
  unfold Obligations.TrackerSumIsExactAndFits
  refine ⟨fun s hinv t tr h => ?sum, fun c hn => by rw [Config.sumW, hn]; decide⟩
  obtain ⟨⟨-, htrk⟩, -⟩ := hinv.units
  obtain ⟨hlen, -⟩ := htrk tr (List.mem_of_getElem? h)
  have hle : tr.sum ≤ s.cfg.n * 2047 := hlen ▸ tr.sum_le
  refine ⟨by simp [State.outputs, h], ?slots, hle, hle.trans_lt (lt_two_pow_bitLength _)⟩
  rw [← hlen, map_getD_range BitVec.toNat]
  rfl

end Sys2Proof.Machine
end

section
/-! TRACK_ADD as an operation: its next state, its reads and its command word (spec/42_tracker.md R161, R166). -/

namespace Sys2Proof.Machine

/-- Settles O38: other trackers by the frame of TRACK_ADD; tracker `t` takes the same sample in both states, or in both
the unit is out of range and nothing is written. -/
theorem trackersAreIndependent : Obligations.TrackersAreIndependent := by
  unfold Obligations.TrackersAreIndependent
  refine ⟨fun t v s s' u h hne => ?other, fun t v s₁ s₂ t₁ t₂ hcfg htrk h₁ h₂ => ?own⟩
  case other =>
    refine (exec_effect h).trk_getElem?_of_other fun w x hw => ?_
    cases hw
    exact hne.symm
  case own =>
    by_cases ht : t.toNat < s₁.cfg.nt
    · rw [(exec_effect h₁).trk_getElem? ht, (exec_effect h₂).trk_getElem? (hcfg ▸ ht), hcfg, htrk]
    · have hbad₁ : IsBadCommand s₁.cfg (.trackAdd t v) := .trackAdd t v (not_lt.1 ht)
      rw [exec_of_isBadCommand hbad₁] at h₁
      rw [exec_of_isBadCommand (hcfg ▸ hbad₁)] at h₂
      rw [next_inj h₁, next_inj h₂]
      exact htrk

/-- In the command word of TRACK_ADD (R161) the sample, the unit and the op code 5 do not overlap. -/
theorem trackAddWord_toNat (t : UnitIx) (v : Raw) :
    (BitVec.ofNat 32 (v.toNat <<< 8 ||| t.toNat <<< 4 ||| 0x5)).toNat = 2 ^ 8 * v.toNat + (2 ^ 4 * t.toNat + 5) := by
  have ht := t.isLt
  have hv := v.isLt
  rw [Nat.or_assoc, Nat.shiftLeft_eq, Nat.shiftLeft_eq, Nat.mul_comm, Nat.mul_comm t.toNat,
    ← Nat.two_pow_add_eq_or_of_lt (b := 5) (by decide), ← Nat.two_pow_add_eq_or_of_lt (by omega),
    BitVec.toNat_ofNat]
  exact Nat.mod_eq_of_lt (by omega)

theorem decodeWord_trackAddWord (t : UnitIx) (v : Raw) :
    decodeWord (BitVec.ofNat 32 (v.toNat <<< 8 ||| t.toNat <<< 4 ||| 0x5)) = .trackAdd t v := by
  obtain ⟨-, -, -, -, -, htrack, -⟩ :=
    commandFieldsDecodeAsTabled (BitVec.ofNat 32 (v.toNat <<< 8 ||| t.toNat <<< 4 ||| 0x5))
  have ht := t.isLt
  have hv := v.isLt
  rw [trackAddWord_toNat] at htrack
  rw [htrack (by omega), show (2 ^ 8 * v.toNat + (2 ^ 4 * t.toNat + 5)) / 2 ^ 4 % 2 ^ 4 = t.toNat by omega,
    show (2 ^ 8 * v.toNat + (2 ^ 4 * t.toNat + 5)) / 2 ^ 8 % 2 ^ 11 = v.toNat by omega]
  simp

/-- Settles O32: the two effects of TRACK_ADD, and `decodeWord_trackAddWord`. -/
theorem trackAddOverwritesOldestSlot : Obligations.TrackAddOverwritesOldestSlot := by
  unfold Obligations.TrackAddOverwritesOldestSlot
  refine fun t v s => ⟨fun tr ht htr => ?inRange, fun ht => exec_of_isBadCommand (.trackAdd t v ht),
    decodeWord_trackAddWord t v⟩
  rw [exec_of_effect (.trackAdd ht), State.updateTracker, List.modify_eq_set_getElem?, htr]
  rfl

end Sys2Proof.Machine
end

section
/-! The normalized value as a convex function of the clamped sample (spec/43_classifier.md R180, R181). HALF_UP is less than
HALF_DN, so the quotient by the half on the sample's own side is the larger of the two, and one formula serves both sides of
the centre. -/

namespace Sys2Proof.Machine

/-- The clamped sample relative to CENTER. -/
def offset (v : Raw) : Rat := (clamp v.toNat clampLo clampHi : Nat) - 992

theorem offset_bounds (v : Raw) : -818 ≤ offset v ∧ offset v ≤ 808 := by
  obtain ⟨hlo, hhi⟩ := clamp_bounds v.toNat clampLo clampHi (by decide)
  have hlo' : ((174 : Nat) : Rat) ≤ (clamp v.toNat clampLo clampHi : Nat) := Nat.cast_le.2 hlo
  have hhi' : ((clamp v.toNat clampLo clampHi : Nat) : Rat) ≤ (1800 : Nat) := Nat.cast_le.2 hhi
  push_cast at hlo' hhi'
  unfold offset
  constructor <;> linarith

theorem offset_mono {v w : Raw} (h : v.toNat ≤ w.toNat) : offset v ≤ offset w :=
  sub_le_sub_right (Nat.cast_le.2 (min_le_min_right _ (max_le_max_right _ h))) _

theorem offset_of_ge {v : Raw} (h : 1800 ≤ v.toNat) : offset v = 808 := by
  have hc : clamp v.toNat clampLo clampHi = 1800 := by unfold clamp clampLo clampHi; omega
  rw [offset, hc]
  norm_num

theorem offset_of_le {v : Raw} (h : v.toNat ≤ 174) : offset v = -818 := by
  have hc : clamp v.toNat clampLo clampHi = 174 := by unfold clamp clampLo clampHi; omega
  rw [offset, hc]
  norm_num

/-- The two quotients of R180 in one. -/
theorem normVal_eq_max (v : Raw) : normVal v = max (offset v / 808) (offset v / 818) := by
  have hval := normVal_eq_div v
  have hpos {a b : Nat} : a > b ↔ (a : Rat) > b := Nat.cast_lt.symm
  simp only [hpos, center, Nat.cast_ofNat] at hval
  rw [hval]
  unfold offset
  split_ifs with hup hdn
  · exact (max_eq_left (by linarith)).symm
  · exact (max_eq_right (by linarith)).symm
  · rw [le_antisymm (not_lt.1 hup) (not_lt.1 hdn)]
    norm_num

theorem normVal_mono {v w : Raw} (h : v.toNat ≤ w.toNat) : normVal v ≤ normVal w := by
  have hle := offset_mono h
  rw [normVal_eq_max, normVal_eq_max]
  exact max_le_max (by linarith) (by linarith)

/-- Settles O39: the quotients are `normVal_eq_div`; the bounds and the end points come from those of `offset`. -/
theorem normIsExactClampedQuotient : Obligations.NormIsExactClampedQuotient := by
  unfold Obligations.NormIsExactClampedQuotient
  refine ⟨fun v => ?_, fun v w => normVal_mono⟩
  have hval := normVal_eq_div v
  obtain ⟨hlo, hhi⟩ := offset_bounds v
  refine ⟨fun hup => ?up, fun hdn => ?down, fun hmid => ?centre, fun hge => ?high, fun hle => ?low, ?lower, ?upper⟩
  case up => exact hval.trans (if_pos hup)
  case down => exact hval.trans ((if_neg (Nat.lt_asymm hdn)).trans (if_pos hdn))
  case centre => exact hval.trans ((if_neg (not_lt.2 hmid.le)).trans (if_neg (not_lt.2 hmid.ge)))
  case high => rw [normVal_eq_max, offset_of_ge hge]; norm_num
  case low => rw [normVal_eq_max, offset_of_le hle]; norm_num
  case lower => rw [normVal_eq_max]; exact le_max_of_le_right (by linarith)
  case upper => rw [normVal_eq_max]; exact max_le (by linarith) (by linarith)

theorem lt_normVal_iff (v : Raw) (θ : Rat) : θ < normVal v ↔ 808 * θ < offset v ∨ 818 * θ < offset v := by
  rw [normVal_eq_max, lt_max_iff, lt_div_iff₀' (by norm_num), lt_div_iff₀' (by norm_num)]

theorem normVal_lt_iff (v : Raw) (θ : Rat) : normVal v < θ ↔ offset v < 808 * θ ∧ offset v < 818 * θ := by
  rw [normVal_eq_max, max_lt_iff, div_lt_iff₀' (by norm_num), div_lt_iff₀' (by norm_num)]

/-- A threshold strictly between the values of neighbouring samples separates all samples there. -/
theorem normVal_separated {θ : Rat} {p : Int} {q : Nat} (hθ : mkRat p q = θ) {a b : Raw} (hab : b.toNat = a.toNat + 1)
    (ha : normVal a < mkRat p q) (hb : mkRat p q < normVal b) (v : Raw) :
    (normVal v > θ ↔ v.toNat ≥ b.toNat) ∧ (normVal v < θ ↔ v.toNat ≤ a.toNat) ∧ normVal v ≠ θ := by
  subst hθ
  rcases Nat.lt_or_ge v.toNat b.toNat with hv | hv
  · have hva : v.toNat ≤ a.toNat := by omega
    have hlt : normVal v < mkRat p q := (normVal_mono hva).trans_lt ha
    exact ⟨iff_of_false hlt.asymm (not_le.2 hv), iff_of_true hlt hva, hlt.ne⟩
  · have hgt : mkRat p q < normVal v := hb.trans_le (normVal_mono hv)
    exact ⟨iff_of_true hgt hv, iff_of_false hgt.asymm (by omega), hgt.ne'⟩

/-- R181 for any threshold: by its sign, one of the two bounds 808·θ and 818·θ implies the other. -/
theorem threshold_integer_form (v : Raw) (θ : Rat) :
    (θ ≥ 0 → (normVal v > θ ↔ offset v > 808 * θ)) ∧ (θ < 0 → (normVal v > θ ↔ offset v > 818 * θ)) ∧
    (θ > 0 → (normVal v < θ ↔ offset v < 808 * θ)) ∧ (θ ≤ 0 → (normVal v < θ ↔ offset v < 818 * θ)) := by
  simp only [gt_iff_lt, lt_normVal_iff, normVal_lt_iff]
  refine ⟨fun hθ => or_iff_left_of_imp fun h => ?_, fun hθ => or_iff_right_of_imp fun h => ?_,
    fun hθ => and_iff_left_of_imp fun h => ?_, fun hθ => and_iff_right_of_imp fun h => ?_⟩
  all_goals linarith

/-- Settles O40: `threshold_integer_form`, with CENTER on the other side; each default threshold lies between two
neighbouring samples (`normVal_separated`). -/
theorem thresholdTestsHaveIntegerForm : Obligations.ThresholdTestsHaveIntegerForm := by
  unfold Obligations.ThresholdTestsHaveIntegerForm
  refine ⟨fun v θ => ?form, fun v => ?defaults⟩
  case form =>
    have hform := threshold_integer_form v θ
    simp only [offset, gt_iff_lt, lt_sub_iff_add_lt', sub_lt_iff_lt_add'] at hform
    exact hform
  case defaults =>
    obtain ⟨upEnter, -, upEnter_ne⟩ :=
      normVal_separated (θ := 9 / 20) (Rat.mkRat_eq_div 9 20) (a := 1355) (b := 1356) rfl (by decide) (by decide) v
    obtain ⟨-, downEnter, downEnter_ne⟩ :=
      normVal_separated (θ := -11 / 20) (Rat.mkRat_eq_div (-11) 20) (a := 542) (b := 543) rfl (by decide) (by decide) v
    obtain ⟨-, upExit, upExit_ne⟩ :=
      normVal_separated (θ := 3 / 20) (Rat.mkRat_eq_div 3 20) (a := 1113) (b := 1114) rfl (by decide) (by decide) v
    obtain ⟨downExit, -, downExit_ne⟩ :=
      normVal_separated (θ := -3 / 20) (Rat.mkRat_eq_div (-3) 20) (a := 869) (b := 870) rfl (by decide) (by decide) v
    obtain ⟨btnEnter, -, btnEnter_ne⟩ :=
      normVal_separated (θ := 1 / 5) (Rat.mkRat_eq_div 1 5) (a := 1153) (b := 1154) rfl (by decide) (by decide) v
    obtain ⟨-, btnExit, btnExit_ne⟩ :=
      normVal_separated (θ := -1 / 5) (Rat.mkRat_eq_div (-1) 5) (a := 828) (b := 829) rfl (by decide) (by decide) v
    exact ⟨upEnter, downEnter, upExit, downExit, btnEnter, btnExit, upEnter_ne, downEnter_ne, upExit_ne, downExit_ne,
      btnEnter_ne, btnExit_ne⟩

end Sys2Proof.Machine
end

section
/-! One sample to a classifier, a lemma for each case of the pseudocode (spec/43_classifier.md R184, R186). -/

namespace Sys2Proof.Machine

/-- The samples that count towards leaving UP or DOWN (R184). -/
def triLeaves (th : TriThresholds) (m : TriMode) (x : Rat) : Prop :=
  m = .up ∧ x < th.upExit ∨ m = .down ∧ x > th.downExit

theorem triCandidate_eq_mid {th : TriThresholds} {x : Rat} (hup : ¬ x > th.upEnter) (hdn : ¬ x < th.downEnter) :
    triCandidate th x = .mid := by
  rw [triCandidate, if_neg hup, if_neg hdn]

theorem TriUnit.sample_of_mid {k : Nat} {th : TriThresholds} {x : Rat} {q : TriUnit} (hm : q.mode = .mid) :
    q.sample k th x = q.inMid k (triCandidate th x) := by
  simp only [TriUnit.sample, hm]

theorem TriUnit.sample_of_no_candidate {k : Nat} {th : TriThresholds} {x : Rat} {q : TriUnit} (hm : q.mode = .mid)
    (hc : triCandidate th x = .mid) : q.sample k th x = { q with pend := .mid, conf := 0 } := by
  rw [TriUnit.sample_of_mid hm, hc]
  rfl

/-- TRI_CONF as a count of samples for `cand`: 0 while another mode is pending (R183). -/
def TriUnit.confFor (cand : TriMode) (q : TriUnit) : Nat := if cand = q.pend then q.conf else 0

/-- The count that R184 compares with K. -/
theorem TriUnit.confFor_succ (cand : TriMode) (q : TriUnit) :
    q.confFor cand + 1 = if cand = q.pend then q.conf + 1 else 1 := by
  unfold TriUnit.confFor
  split <;> rfl

theorem TriUnit.sample_of_candidate {k : Nat} {th : TriThresholds} {x : Rat} {q : TriUnit} {cand : TriMode}
    (hm : q.mode = .mid) (hc : triCandidate th x = cand) (hne : cand ≠ .mid) :
    q.sample k th x =
      if q.confFor cand + 1 = k then { mode := cand, pend := .mid, conf := 0, exit := 0 }
      else { q with pend := cand, conf := q.confFor cand + 1 } := by
  rw [TriUnit.sample_of_mid hm, hc, TriUnit.inMid_candidate k cand q hne, TriUnit.confFor_succ]

theorem TriUnit.sample_of_leaves {k : Nat} {th : TriThresholds} {x : Rat} {q : TriUnit} (h : triLeaves th q.mode x) :
    q.sample k th x =
      if q.exit + 1 = k then { q with mode := .mid, exit := 0 } else { q with exit := q.exit + 1 } := by
  rcases h with ⟨hm, hx⟩ | ⟨hm, hx⟩ <;> simp only [TriUnit.sample, hm, TriUnit.leave, hx, decide_true, if_true]

theorem TriUnit.sample_of_stays {k : Nat} {th : TriThresholds} {x : Rat} {q : TriUnit} (hm : q.mode ≠ .mid)
    (h : ¬ triLeaves th q.mode x) : q.sample k th x = { q with exit := 0 } := by
  cases hmode : q.mode with
  | mid => exact absurd hmode hm
  | up => simp_all [triLeaves, TriUnit.sample, TriUnit.leave]
  | down => simp_all [triLeaves, TriUnit.sample, TriUnit.leave]

theorem BinUnit.sample_off {k : Nat} {th : BinThresholds} {x : Rat} {q : BinUnit} (hm : q.mode = .off) :
    q.sample k th x =
      if x > th.btnEnter then
        if q.conf + 1 = k then { q with mode := .on, conf := 0 } else { q with conf := q.conf + 1 }
      else { q with conf := 0 } := by
  simp only [BinUnit.sample, hm]

theorem BinUnit.sample_on {k : Nat} {th : BinThresholds} {x : Rat} {q : BinUnit} (hm : q.mode = .on) :
    q.sample k th x =
      if x < th.btnExit then
        if q.exit + 1 = k then { q with mode := .off, exit := 0 } else { q with exit := q.exit + 1 }
      else { q with exit := 0 } := by
  simp only [BinUnit.sample, hm]

end Sys2Proof.Machine
end

section
/-! CLASSIFY_TRI and CLASSIFY_BIN as operations: their next state and their command words (spec/43_classifier.md R184,
R186, R189). -/

namespace Sys2Proof.Machine

/-- An op code, a unit and a sample as the shifts and ors of R81 place them do not overlap. -/
theorem unitValWord_toNat {op : Nat} (hop : op < 2 ^ 4) (u : UnitIx) (v : Raw) :
    (BitVec.ofNat 32 (v.toNat <<< 8 ||| u.toNat <<< 4 ||| op)).toNat = 2 ^ 8 * v.toNat + (2 ^ 4 * u.toNat + op) := by
  have hu := u.isLt
  have hv := v.isLt
  rw [Nat.or_assoc, Nat.shiftLeft_eq, Nat.shiftLeft_eq, Nat.mul_comm, Nat.mul_comm u.toNat,
    ← Nat.two_pow_add_eq_or_of_lt hop, ← Nat.two_pow_add_eq_or_of_lt (by omega), BitVec.toNat_ofNat]
  exact Nat.mod_eq_of_lt (by omega)

/-- Such a word gives its three fields back. -/
theorem unitValWord_fields {op : Nat} (hop : op < 2 ^ 4) (u : UnitIx) (v : Raw) :
    let w : CmdWord := BitVec.ofNat 32 (v.toNat <<< 8 ||| u.toNat <<< 4 ||| op)
    w.toNat % 16 = op ∧ unitField w = u ∧ valField w = v := by
  intro w
  have hu := u.isLt
  have hv := v.isLt
  have hw : w.toNat = 2 ^ 8 * v.toNat + (2 ^ 4 * u.toNat + op) := unitValWord_toNat hop u v
  refine ⟨by omega, ?unit, ?val⟩
  case unit => rw [unitField_eq_ofNat, show w.toNat / 2 ^ 4 % 2 ^ 4 = u.toNat by omega]; simp
  case val => rw [valField_eq_ofNat, show w.toNat / 2 ^ 8 % 2 ^ 11 = v.toNat by omega]; simp

theorem decodeWord_classifyTriWord (u : UnitIx) (v : Raw) :
    decodeWord (BitVec.ofNat 32 (v.toNat <<< 8 ||| u.toNat <<< 4 ||| 0x6)) = .classifyTri u v := by
  obtain ⟨hop, hunit, hval⟩ := unitValWord_fields (op := 0x6) (by decide) u v
  obtain ⟨-, -, -, -, -, -, htri, -⟩ := commandFieldsDecodeAsTabled _
  rw [htri hop, ← unitField_eq_ofNat, ← valField_eq_ofNat, hunit, hval]

theorem decodeWord_classifyBinWord (u : UnitIx) (v : Raw) :
    decodeWord (BitVec.ofNat 32 (v.toNat <<< 8 ||| u.toNat <<< 4 ||| 0x7)) = .classifyBin u v := by
  obtain ⟨hop, hunit, hval⟩ := unitValWord_fields (op := 0x7) (by decide) u v
  obtain ⟨-, -, -, -, -, -, -, hbin, -⟩ := commandFieldsDecodeAsTabled _
  rw [hbin hop, ← unitField_eq_ofNat, ← valField_eq_ofNat, hunit, hval]

theorem exec_classifyTri {u : UnitIx} {v : Raw} {s : State} {th : TriThresholds} {q : TriUnit}
    (hth : s.cfg.tri[u.toNat]? = some th) (hq : s.tri[u.toNat]? = some q) :
    exec (.classifyTri u v) s = .next { s with tri := s.tri.set u.toNat (q.sample s.cfg.k th (normVal v)) } := by
  rw [exec_of_effect (.classifyTri hth), State.updateTri, modify_eq_set _ hq]

theorem exec_classifyBin {u : UnitIx} {v : Raw} {s : State} {th : BinThresholds} {q : BinUnit}
    (hth : s.cfg.bin[u.toNat]? = some th) (hq : s.bin[u.toNat]? = some q) :
    exec (.classifyBin u v) s = .next { s with bin := s.bin.set u.toNat (q.sample s.cfg.k th (normVal v)) } := by
  rw [exec_of_effect (.classifyBin hth), State.updateBin, modify_eq_set _ hq]

/-- Settles O41: q' is `TriUnit.sample`, whose cases are the lemmas above; a unit out of range is a bad command. -/
theorem classifyTriFollowsPseudocode : Obligations.ClassifyTriFollowsPseudocode := by
  unfold Obligations.ClassifyTriFollowsPseudocode
  refine fun u v s => ⟨fun th q hth hq => ⟨_, exec_classifyTri hth hq, ?noCandidate, ?candidate, ?leaving, ?staying⟩,
    fun hu => exec_of_isBadCommand (.classifyTri u v hu), decodeWord_classifyTriWord u v⟩
  case noCandidate => exact fun hm hup hdn => TriUnit.sample_of_no_candidate hm (triCandidate_eq_mid hup hdn)
  case candidate =>
    intro cand hm hcand c
    have hcount : q.confFor cand + 1 = c := q.confFor_succ cand
    have hsample : q.sample s.cfg.k th (normVal v) =
        if c = s.cfg.k then { mode := cand, pend := .mid, conf := 0, exit := 0 } else { q with pend := cand, conf := c } := by
      rw [← hcount]
      rcases hcand with ⟨hup, rfl⟩ | ⟨hup, hdn, rfl⟩
      · exact TriUnit.sample_of_candidate hm ((triCandidate_eq_up_iff _ _).2 hup) (by decide)
      · exact TriUnit.sample_of_candidate hm ((triCandidate_eq_down_iff _ _).2 ⟨hup, hdn⟩) (by decide)
    exact ⟨fun hk => hsample.trans (if_pos hk), fun hk => hsample.trans (if_neg hk)⟩
  case leaving =>
    intro hleaves
    have hsample := TriUnit.sample_of_leaves (k := s.cfg.k) (th := th) (x := normVal v) hleaves
    exact ⟨fun hk => hsample.trans (if_pos hk), fun hk => hsample.trans (if_neg hk)⟩
  case staying =>
    intro hstays
    rcases hstays with ⟨hm, hx⟩ | ⟨hm, hx⟩
    · exact TriUnit.sample_of_stays (by simp [hm]) (by simp [triLeaves, hm, hx])
    · exact TriUnit.sample_of_stays (by simp [hm]) (by simp [triLeaves, hm, hx])

/-- Settles O42: q' is `BinUnit.sample`, one equation for each mode; a unit out of range is a bad command. -/
theorem classifyBinFollowsPseudocode : Obligations.ClassifyBinFollowsPseudocode := by
  unfold Obligations.ClassifyBinFollowsPseudocode
  refine fun u v s => ⟨fun th q hth hq => ⟨_, exec_classifyBin hth hq, ?enter, ?off, ?leave, ?on⟩,
    fun hu => exec_of_isBadCommand (.classifyBin u v hu), decodeWord_classifyBinWord u v⟩
  case enter =>
    intro hm hx
    have hsample := (BinUnit.sample_off (k := s.cfg.k) hm).trans (if_pos hx)
    exact ⟨fun hk => hsample.trans (if_pos hk), fun hk => hsample.trans (if_neg hk)⟩
  case off => exact fun hm hx => (BinUnit.sample_off hm).trans (if_neg hx)
  case leave =>
    intro hm hx
    have hsample := (BinUnit.sample_on (k := s.cfg.k) hm).trans (if_pos hx)
    exact ⟨fun hk => hsample.trans (if_pos hk), fun hk => hsample.trans (if_neg hk)⟩
  case on => exact fun hm hx => (BinUnit.sample_on hm).trans (if_neg hx)

/-- What CLASSIFY_TRI on unit `u` with sample `v` does to classifier `u` of a block with parameters `c`: nothing without
such a classifier. -/
def triStep (c : Config) (u : UnitIx) (v : Raw) : TriUnit → TriUnit :=
  c.tri[u.toNat]?.elim id fun th => TriUnit.sample c.k th (normVal v)

/-- What CLASSIFY_BIN on unit `u` with sample `v` does to classifier `u` of a block with parameters `c`. -/
def binStep (c : Config) (u : UnitIx) (v : Raw) : BinUnit → BinUnit :=
  c.bin[u.toNat]?.elim id fun th => BinUnit.sample c.k th (normVal v)

theorem Effect.classifyTri_units {u : UnitIx} {v : Raw} {s t : State} (h : Effect (.classifyTri u v) s t) :
    t.tri = s.tri.modify u.toNat (triStep s.cfg u v) ∧ t.bin = s.bin := by
  cases h with
  | idle h => cases h
  | badCommand h => cases h with | classifyTri _ _ hu => simp [triStep, List.getElem?_eq_none hu]
  | classifyTri hth => simp [triStep, hth]

theorem Effect.classifyBin_units {u : UnitIx} {v : Raw} {s t : State} (h : Effect (.classifyBin u v) s t) :
    t.bin = s.bin.modify u.toNat (binStep s.cfg u v) ∧ t.tri = s.tri := by
  cases h with
  | idle h => cases h
  | badCommand h => cases h with | classifyBin _ _ hu => simp [binStep, List.getElem?_eq_none hu]
  | classifyBin hth => simp [binStep, hth]

/-- Settles O45: each operation rewrites element `u` of its list with `triStep` or `binStep`, functions of the parameters
and the sample, and no other element. -/
theorem classifiersAreIsolated : Obligations.ClassifiersAreIsolated := by
  unfold Obligations.ClassifiersAreIsolated
  refine ⟨fun u v s₁ s₂ t₁ t₂ hcfg hu h₁ h₂ => ?tri, fun u v s₁ s₂ t₁ t₂ hcfg hu h₁ h₂ => ?bin⟩
  case tri =>
    obtain ⟨htri₁, hbin₁⟩ := (exec_effect h₁).classifyTri_units
    obtain ⟨htri₂, -⟩ := (exec_effect h₂).classifyTri_units
    refine ⟨?_, hbin₁, fun w hw => by rw [htri₁, List.getElem?_modify_ne _ _ hw.symm]⟩
    rw [htri₁, htri₂, List.getElem?_modify_eq, List.getElem?_modify_eq, hcfg, hu]
  case bin =>
    obtain ⟨hbin₁, htri₁⟩ := (exec_effect h₁).classifyBin_units
    obtain ⟨hbin₂, -⟩ := (exec_effect h₂).classifyBin_units
    refine ⟨?_, htri₁, fun w hw => by rw [hbin₁, List.getElem?_modify_ne _ _ hw.symm]⟩
    rw [hbin₁, hbin₂, List.getElem?_modify_eq, List.getElem?_modify_eq, hcfg, hu]

end Sys2Proof.Machine
end

section
/-! The counter discipline that both kinds of classifier share (spec/43_classifier.md R183, R185): in a held mode one kind of
sample counts and another clears the count; only the K-th counted sample in a row can end the mode. -/

namespace Sys2Proof.Machine

/-- A unit under the counter discipline: what is counted while the mode is held, and what clears the count. -/
structure Debounce (U : Type) where
  sample : U → Raw → U
  /-- K of R7. -/
  k : Nat
  held : U → Prop
  count : U → Nat
  clear : U → U
  counts : Raw → Prop
  clears : Raw → Prop
  sample_counts : ∀ {u v}, held u → counts v → count u + 1 ≠ k → held (sample u v) ∧ count (sample u v) = count u + 1
  sample_clears : ∀ {u v}, held u → clears v → sample u v = clear u
  held_clear : ∀ {u}, held u → held (clear u)
  count_clear : ∀ u, count (clear u) = 0
  clear_clear : ∀ u, clear (clear u) = clear u

/-- The unit after samples one after another. -/
def Debounce.run {U : Type} (d : Debounce U) (vs : List Raw) (u : U) : U := vs.foldl d.sample u

@[simp] theorem Debounce.run_nil {U : Type} (d : Debounce U) (u : U) : d.run [] u = u := rfl

@[simp] theorem Debounce.run_cons {U : Type} (d : Debounce U) (v : Raw) (vs : List Raw) (u : U) :
    d.run (v :: vs) u = d.run vs (d.sample u v) := rfl

theorem Debounce.run_concat {U : Type} (d : Debounce U) (vs : List Raw) (v : Raw) (u : U) :
    d.run (vs ++ [v]) u = d.sample (d.run vs u) v := List.foldl_concat ..

/-- Fewer counted samples than K leaves open hold the mode. -/
theorem Debounce.run_below {U : Type} (d : Debounce U) {vs : List Raw} {u : U} (hu : d.held u)
    (hvs : ∀ v ∈ vs, d.counts v) (hlt : d.count u + vs.length < d.k) :
    d.held (d.run vs u) ∧ d.count (d.run vs u) = d.count u + vs.length := by
  induction vs generalizing u with
  | nil => exact ⟨hu, rfl⟩
  | cons v vs ih =>
    rw [List.forall_mem_cons] at hvs
    rw [List.length_cons] at hlt ⊢
    obtain ⟨hheld, hcount⟩ := d.sample_counts hu hvs.1 (by omega)
    obtain ⟨hrun, hrunCount⟩ := ih hheld hvs.2 (by omega)
    exact ⟨hrun, by rw [d.run_cons, hrunCount, hcount]; omega⟩

/-- K counted samples from count 0 end in the K-th, taken with the mode held and K−1 counted. -/
theorem Debounce.run_kth {U : Type} (d : Debounce U) {vs : List Raw} {u : U} (hu : d.held u) (h0 : d.count u = 0)
    (hk : 1 ≤ d.k) (hvs : ∀ v ∈ vs, d.counts v) (hlen : vs.length = d.k) :
    ∃ w v, d.run vs u = d.sample w v ∧ d.held w ∧ d.counts v ∧ d.count w + 1 = d.k := by
  rcases List.eq_nil_or_concat vs with rfl | ⟨ws, v, rfl⟩
  · exact absurd hlen (Nat.ne_of_lt hk)
  · rw [List.concat_eq_append] at hvs hlen ⊢
    rw [List.length_append, List.length_singleton] at hlen
    rw [List.forall_mem_append, List.forall_mem_singleton] at hvs
    obtain ⟨hheld, hcount⟩ := d.run_below hu hvs.1 (by omega)
    exact ⟨_, v, d.run_concat ws v u, hheld, hvs.2, by omega⟩

/-- A clearing sample in place of the K-th counted one holds the mode and clears the count. -/
theorem Debounce.run_broken {U : Type} (d : Debounce U) {vs : List Raw} {m : Raw} {u : U} (hu : d.held u)
    (h0 : d.count u = 0) (hvs : ∀ v ∈ vs, d.counts v) (hlen : vs.length + 1 = d.k) (hm : d.clears m) :
    d.held (d.run vs u) ∧ d.run (vs ++ [m]) u = d.clear (d.run vs u) := by
  obtain ⟨hheld, -⟩ := d.run_below hu hvs (by omega)
  exact ⟨hheld, (d.run_concat vs m u).trans (d.sample_clears hheld hm)⟩

/-- Clearing samples alone leave the unit cleared. -/
theorem Debounce.run_clears {U : Type} (d : Debounce U) {vs : List Raw} {u : U} (hu : d.held u)
    (hvs : ∀ v ∈ vs, d.clears v) (hne : vs ≠ []) : d.run vs u = d.clear u := by
  induction vs generalizing u with
  | nil => exact absurd rfl hne
  | cons v vs ih =>
    rw [List.forall_mem_cons] at hvs
    rw [d.run_cons, d.sample_clears hu hvs.1]
    by_cases hvs0 : vs = []
    · rw [hvs0, d.run_nil]
    · rw [ih (d.held_clear hu) hvs.2 hvs0, d.clear_clear]

/-- Somewhere in the samples, `k` in a row satisfy `p`. -/
def HasRun (k : Nat) (p : Raw → Prop) (vs : List Raw) : Prop :=
  ∃ before window rest, vs = before ++ window ++ rest ∧ window.length = k ∧ ∀ v ∈ window, p v

theorem HasRun.append_left {k : Nat} {p : Raw → Prop} {vs : List Raw} (h : HasRun k p vs) (ws : List Raw) :
    HasRun k p (ws ++ vs) := by
  obtain ⟨before, window, rest, rfl, hlen, hp⟩ := h
  exact ⟨ws ++ before, window, rest, by simp only [List.append_assoc], hlen, hp⟩

/-- Where every sample counts or clears, the mode ends only after K counted samples in a row. The generalisation for the
induction: `recent` holds the samples counted so far. -/
theorem Debounce.hasRun_of_not_held {U : Type} (d : Debounce U) (htotal : ∀ v, ¬ d.counts v → d.clears v) {vs : List Raw}
    {u : U} {recent : List Raw} (hu : d.held u) (hrecent : ∀ v ∈ recent, d.counts v) (hlen : recent.length = d.count u)
    (hend : ¬ d.held (d.run vs u)) : HasRun d.k d.counts (recent ++ vs) := by
  induction vs generalizing u recent with
  | nil => exact absurd hu hend
  | cons v vs ih =>
    by_cases hv : d.counts v
    · have hrecent' : ∀ w ∈ recent ++ [v], d.counts w :=
        List.forall_mem_append.2 ⟨hrecent, List.forall_mem_singleton.2 hv⟩
      have hlen' : (recent ++ [v]).length = d.count u + 1 := by
        rw [List.length_append, List.length_singleton, hlen]
      by_cases hk : d.count u + 1 = d.k
      · exact ⟨[], recent ++ [v], vs, by simp, hlen'.trans hk, hrecent'⟩
      · obtain ⟨hheld, hcount⟩ := d.sample_counts hu hv hk
        rw [List.append_cons]
        exact ih hheld hrecent' (hlen'.trans hcount.symm) hend
    · rw [d.run_cons, d.sample_clears hu (htotal v hv)] at hend
      have hrest : HasRun d.k d.counts ([] ++ vs) :=
        ih (d.held_clear hu) (List.forall_mem_nil _) (d.count_clear u).symm hend
      rw [List.append_cons]
      exact hrest.append_left _

end Sys2Proof.Machine
end

section
/-! The four counters of the classifiers as debounced ones: towards UP or DOWN from MID, back to MID, and the same for ON and
OFF. -/

namespace Sys2Proof.Machine

/-- TRI_CONF in MID, as a count towards `cand`. A MID candidate clears it whatever is pending (R183). -/
def triEnter (k : Nat) (th : TriThresholds) (cand : TriMode) : Debounce TriUnit where
  sample q v := q.sample k th (normVal v)
  k := k
  held q := q.mode = .mid
  count q := q.confFor cand
  clear q := { q with pend := .mid, conf := 0 }
  counts v := triCandidate th (normVal v) = cand ∧ cand ≠ .mid
  clears v := triCandidate th (normVal v) = .mid
  sample_counts := by
    intro q v hm hv hk
    rw [TriUnit.sample_of_candidate hm hv.1 hv.2, if_neg hk]
    exact ⟨hm, if_pos rfl⟩
  sample_clears hm hv := TriUnit.sample_of_no_candidate hm hv
  held_clear hm := hm
  count_clear _ := ite_self 0
  clear_clear _ := rfl

/-- TRI_EXIT in mode `m`, UP or DOWN (R183). -/
def triExit (k : Nat) (th : TriThresholds) (m : TriMode) (hne : m ≠ .mid) : Debounce TriUnit where
  sample q v := q.sample k th (normVal v)
  k := k
  held q := q.mode = m
  count q := q.exit
  clear q := { q with exit := 0 }
  counts v := triLeaves th m (normVal v)
  clears v := ¬ triLeaves th m (normVal v)
  sample_counts := by
    intro q v hm hv hk
    subst hm
    rw [TriUnit.sample_of_leaves hv, if_neg hk]
    exact ⟨rfl, rfl⟩
  sample_clears := by
    intro q v hm hv
    subst hm
    exact TriUnit.sample_of_stays hne hv
  held_clear hm := hm
  count_clear _ := rfl
  clear_clear _ := rfl

/-- BIN_CONF in OFF (R185). -/
def binEnter (k : Nat) (th : BinThresholds) : Debounce BinUnit where
  sample q v := q.sample k th (normVal v)
  k := k
  held q := q.mode = .off
  count q := q.conf
  clear q := { q with conf := 0 }
  counts v := normVal v > th.btnEnter
  clears v := ¬ normVal v > th.btnEnter
  sample_counts := by
    intro q v hm hv hk
    rw [BinUnit.sample_off hm, if_pos hv, if_neg hk]
    exact ⟨hm, rfl⟩
  sample_clears hm hv := (BinUnit.sample_off hm).trans (if_neg hv)
  held_clear hm := hm
  count_clear _ := rfl
  clear_clear _ := rfl

/-- BIN_EXIT in ON (R185). -/
def binExit (k : Nat) (th : BinThresholds) : Debounce BinUnit where
  sample q v := q.sample k th (normVal v)
  k := k
  held q := q.mode = .on
  count q := q.exit
  clear q := { q with exit := 0 }
  counts v := normVal v < th.btnExit
  clears v := ¬ normVal v < th.btnExit
  sample_counts := by
    intro q v hm hv hk
    rw [BinUnit.sample_on hm, if_pos hv, if_neg hk]
    exact ⟨hm, rfl⟩
  sample_clears hm hv := (BinUnit.sample_on hm).trans (if_neg hv)
  held_clear hm := hm
  count_clear _ := rfl
  clear_clear _ := rfl

end Sys2Proof.Machine
end

section
/-! Sample sequences to one classifier (spec/43_classifier.md R187, R188). -/

namespace Sys2Proof.Machine

theorem execAll_classifyTri {u : UnitIx} {th : TriThresholds} (vs : List Raw) {s : State} {q : TriUnit}
    (hth : s.cfg.tri[u.toNat]? = some th) (hq : s.tri[u.toNat]? = some q) :
    ∃ t, execAll (vs.map (Instr.classifyTri u)) s = .next t ∧
      t.tri[u.toNat]? = some (vs.foldl (fun q v => q.sample s.cfg.k th (normVal v)) q) := by
  induction vs generalizing s q with
  | nil => exact ⟨s, rfl, hq⟩
  | cons v vs ih =>
    simp only [List.map_cons, execAll, exec_of_effect (.classifyTri hth)]
    exact ih hth (by rw [State.updateTri_tri, List.getElem?_modify_eq, hq]; rfl)

theorem execAll_classifyBin {u : UnitIx} {th : BinThresholds} (vs : List Raw) {s : State} {q : BinUnit}
    (hth : s.cfg.bin[u.toNat]? = some th) (hq : s.bin[u.toNat]? = some q) :
    ∃ t, execAll (vs.map (Instr.classifyBin u)) s = .next t ∧
      t.bin[u.toNat]? = some (vs.foldl (fun q v => q.sample s.cfg.k th (normVal v)) q) := by
  induction vs generalizing s q with
  | nil => exact ⟨s, rfl, hq⟩
  | cons v vs ih =>
    simp only [List.map_cons, execAll, exec_of_effect (.classifyBin hth)]
    exact ih hth (by rw [State.updateBin_bin, List.getElem?_modify_eq, hq]; rfl)

theorem not_triLeaves_of_stays {th : TriThresholds} {m : TriMode} {x : Rat}
    (h : m = .up ∧ x ≥ th.upExit ∨ m = .down ∧ x ≤ th.downExit) : ¬ triLeaves th m x := by
  rcases h with ⟨rfl, hx⟩ | ⟨rfl, hx⟩ <;> simpa [triLeaves] using hx

/-- Settles O44: TRI_EXIT and BIN_EXIT are debounced counters (`triExit`, `binExit`), which clearing samples leave at 0
(`Debounce.run_clears`) and whose mode ends only after K counted samples in a row (`Debounce.hasRun_of_not_held`). -/
theorem hysteresisHoldsTheMode : Obligations.HysteresisHoldsTheMode := by
  unfold Obligations.HysteresisHoldsTheMode
  refine ⟨fun u s th q vs hth hq hm => ?tri, fun u s th q vs hth hq hm => ?bin⟩
  case tri =>
    obtain ⟨t, hrun, ht⟩ := execAll_classifyTri vs hth hq
    let d := triExit s.cfg.k th q.mode hm
    refine ⟨t, d.run vs q, hrun, ht, fun hne hvs => ?_, fun h0 hend => ?_⟩
    · exact d.run_clears rfl (fun v hv => not_triLeaves_of_stays (hvs v hv)) hne
    · exact d.hasRun_of_not_held (recent := []) (fun _ => id) rfl (List.forall_mem_nil _) h0.symm hend
  case bin =>
    obtain ⟨t, hrun, ht⟩ := execAll_classifyBin vs hth hq
    let d := binExit s.cfg.k th
    refine ⟨t, d.run vs q, hrun, ht, fun hne hvs => ?_, fun h0 hend => ?_⟩
    · exact d.run_clears hm (fun v hv => not_lt.2 (hvs v hv)) hne
    · exact d.hasRun_of_not_held (recent := []) (fun _ => id) hm (List.forall_mem_nil _) h0.symm hend

theorem triEnter_counts {k : Nat} {th : TriThresholds} {cand : TriMode} {v : Raw}
    (h : cand = .up ∧ normVal v > th.upEnter ∨ cand = .down ∧ ¬ normVal v > th.upEnter ∧ normVal v < th.downEnter) :
    (triEnter k th cand).counts v := by
  rcases h with ⟨rfl, hup⟩ | ⟨rfl, hdn⟩
  · exact ⟨(triCandidate_eq_up_iff _ _).2 hup, by decide⟩
  · exact ⟨(triCandidate_eq_down_iff _ _).2 hdn, by decide⟩

/-- The K-th candidate sample changes the mode. -/
theorem TriUnit.sample_kth {k : Nat} {th : TriThresholds} {x : Rat} {q : TriUnit} {cand : TriMode} (hm : q.mode = .mid)
    (hc : triCandidate th x = cand) (hne : cand ≠ .mid) (hk : q.confFor cand + 1 = k) : (q.sample k th x).mode = cand := by
  rw [TriUnit.sample_of_candidate hm hc hne, if_pos hk]

theorem BinUnit.sample_kth {k : Nat} {th : BinThresholds} {x : Rat} {q : BinUnit} (hm : q.mode = .off)
    (hx : x > th.btnEnter) (hk : q.conf + 1 = k) : (q.sample k th x).mode = .on := by
  rw [BinUnit.sample_off hm, if_pos hx, if_pos hk]

/-- Settles O43: TRI_CONF towards the candidate and BIN_CONF are debounced counters (`triEnter`, `binEnter`), here at 0. -/
theorem debounceCommitsOnTheKthSample : Obligations.DebounceCommitsOnTheKthSample := by
  unfold Obligations.DebounceCommitsOnTheKthSample
  refine ⟨fun u s th q cand vs hth hq hk hm hpend hvs => ?tri, fun u s th q vs hth hq hk hm h0 hvs => ?bin⟩
  case tri =>
    let d := triEnter s.cfg.k th cand
    have hcounts : ∀ v ∈ vs, d.counts v := fun v hv => triEnter_counts (hvs v hv)
    have h0 : d.count q = 0 := if_neg hpend.symm
    obtain ⟨t, hrun, ht⟩ := execAll_classifyTri vs hth hq
    refine ⟨fun hlt => ⟨t, _, hrun, ht, ?before⟩, fun hlen => ⟨t, _, hrun, ht, ?kth⟩, fun hlen m hup hdn => ?broken⟩
    case before => exact (d.run_below hm hcounts (by rwa [h0, Nat.zero_add])).1
    case kth =>
      obtain ⟨w, v, hw, hheld, ⟨hc, hne⟩, hcount⟩ := d.run_kth hm h0 hk hcounts hlen
      exact (congrArg TriUnit.mode hw).trans (TriUnit.sample_kth hheld hc hne hcount)
    case broken =>
      obtain ⟨t, hrun, ht⟩ := execAll_classifyTri (vs ++ [m]) hth hq
      obtain ⟨hheld, hclear⟩ := d.run_broken hm h0 hcounts hlen (triCandidate_eq_mid hup hdn)
      exact ⟨t, d.clear (d.run vs q), hrun, ht.trans (congrArg some hclear), hheld, rfl⟩
  case bin =>
    let d := binEnter s.cfg.k th
    have hcount0 : d.count q = 0 := h0
    obtain ⟨t, hrun, ht⟩ := execAll_classifyBin vs hth hq
    refine ⟨fun hlt => ⟨t, _, hrun, ht, ?before⟩, fun hlen => ⟨t, _, hrun, ht, ?kth⟩, fun hlen m hoff => ?broken⟩
    case before => exact (d.run_below hm hvs (by rwa [hcount0, Nat.zero_add])).1
    case kth =>
      obtain ⟨w, v, hw, hheld, hx, hcount⟩ := d.run_kth hm hcount0 hk hvs hlen
      exact (congrArg BinUnit.mode hw).trans (BinUnit.sample_kth hheld hx hcount)
    case broken =>
      obtain ⟨t, hrun, ht⟩ := execAll_classifyBin (vs ++ [m]) hth hq
      obtain ⟨hheld, hclear⟩ := d.run_broken hm hcount0 hvs hlen hoff
      exact ⟨t, d.clear (d.run vs q), hrun, ht.trans (congrArg some hclear), hheld, rfl⟩

end Sys2Proof.Machine
end

section
/-! Which operations raise an error event, and what the error records hold then (spec/60_exceptions.md R220 to R224). An
operation has one effect in a state (`Effect.unique`), so naming the effect a condition brings settles what the operation
does under it; the converse splits on the effects. -/

namespace Sys2Proof.Machine

/-- An operation has at most one effect in a state. -/
theorem Effect.unique {i : Instr} {s t u : State} (ht : Effect i s t) (hu : Effect i s u) : t = u :=
  next_inj ((exec_of_effect hu).symm.trans (exec_of_effect ht))

/-! Desync events. -/

/-- The condition that R220 lists for each cause. NONE has none. -/
inductive DesyncCondition (s : State) : Instr → Cause → Prop where
  | badEnd {b : Byte} (h : s.asmCnt = 24) (hb : b ≠ endMark) : DesyncCondition s (.pushByte b) .badEnd
  | overrun (h : s.asmCnt = 24) (hr : s.frameReady = true) : DesyncCondition s (.pushByte endMark) .overrun
  | gap (h : s.asmCnt ≠ 0) : DesyncCondition s .idleGap .gap

theorem desyncCondition_iff {s : State} {i : Instr} {c : Cause} : DesyncCondition s i c ↔
    c = .badEnd ∧ (∃ b, i = .pushByte b ∧ b ≠ 0x00) ∧ s.asmCnt = 24 ∨
      c = .overrun ∧ i = .pushByte 0x00 ∧ s.asmCnt = 24 ∧ s.frameReady = true ∨
      c = .gap ∧ i = .idleGap ∧ s.asmCnt ≠ 0 := by
  constructor
  · rintro (⟨h, hb⟩ | ⟨h, hr⟩ | h)
    · exact .inl ⟨rfl, ⟨_, rfl, hb⟩, h⟩
    · exact .inr (.inl ⟨rfl, rfl, h, hr⟩)
    · exact .inr (.inr ⟨rfl, rfl, h⟩)
  · rintro (⟨rfl, ⟨b, rfl, hb⟩, h⟩ | ⟨rfl, rfl, h, hr⟩ | ⟨rfl, rfl, h⟩)
    · exact .badEnd h hb
    · exact .overrun h hr
    · exact .gap h

theorem DesyncCondition.ne_noDesync {s : State} {i : Instr} {c : Cause} (h : DesyncCondition s i c) : c ≠ .noDesync := by
  cases h <;> simp

/-- Under its condition a desync is raised, with ASM_CNT emptied and some bytes left in STAGE (R222). -/
theorem DesyncCondition.effect {s : State} {i : Instr} {c : Cause} (h : DesyncCondition s i c) :
    ∃ f : Frame, Effect i s (State.raiseDesync c { s with stage := f, asmCnt := 0 }) := by
  cases h with
  | badEnd h hb => exact ⟨_, .badEnd h hb⟩
  | overrun h hr => exact ⟨_, .overrun h hr⟩
  | gap h => exact ⟨_, .gap h⟩

theorem Effect.desyncCondition {i : Instr} {s t : State} {c : Cause} (h : Effect i s t) (hs : s.evt = none)
    (ht : t.evt = some (.desync c)) : DesyncCondition s i c := by
  cases h with
  | badEnd h hb => cases ht; exact .badEnd h hb
  | overrun h hr => cases ht; exact .overrun h hr
  | gap h => cases ht; exact .gap h
  | _ => simp [hs] at ht

/-- Settles O46: `Effect.desyncCondition` one way; the other way, and for the whole next state, the effect that the
condition brings (`DesyncCondition.effect`). -/
theorem desyncChangesOnlyItsRecords : Obligations.DesyncChangesOnlyItsRecords := by
  unfold Obligations.DesyncChangesOnlyItsRecords
  refine ⟨fun i s t c hs h => ?desync, rfl, rfl, rfl, rfl⟩
  have hi := exec_effect h
  rw [← desyncCondition_iff]
  refine ⟨⟨hi.desyncCondition hs, fun hc => ?signals⟩, fun ht => ?frame⟩
  case signals =>
    obtain ⟨f, hf⟩ := hc.effect
    rw [hi.unique hf, State.raiseDesync_evt]
  case frame =>
    obtain ⟨f, hf⟩ := (hi.desyncCondition hs ht).effect
    rw [hi.unique hf]
    rfl

/-! The error records over a step. -/

/-- An operation that signals no desync writes neither record (R21). -/
theorem Effect.keeps_records {i : Instr} {s t : State} (h : Effect i s t) (ht : ∀ c, t.evt ≠ some (.desync c)) :
    t.desyncCount = s.desyncCount ∧ t.lastCause = s.lastCause := by
  cases h with
  | badEnd h hb => exact absurd rfl (ht _)
  | overrun h hr => exact absurd rfl (ht _)
  | gap h => exact absurd rfl (ht _)
  | _ => simp

/-- What happens to DESYNC_COUNT and LAST_CAUSE without reset: a desync is recorded, or they are kept (R221). -/
inductive RecordStep (s t : State) : Prop where
  | desync (c : Cause) (hc : c ≠ .noDesync) (hevt : t.evt = some (.desync c))
      (hcount : t.desyncCount = satIncr s.desyncCount) (hcause : t.lastCause = c)
  | kept (hevt : ∀ c, t.evt ≠ some (.desync c)) (hcount : t.desyncCount = s.desyncCount)
      (hcause : t.lastCause = s.lastCause)

theorem Effect.recordStep {i : Instr} {s t : State} (h : Effect i s t) (hs : s.evt = none) : RecordStep s t := by
  by_cases hevt : ∃ c, t.evt = some (.desync c)
  · obtain ⟨c, hc⟩ := hevt
    have hcond := h.desyncCondition hs hc
    obtain ⟨f, hf⟩ := hcond.effect
    obtain rfl := h.unique hf
    exact .desync c hcond.ne_noDesync rfl rfl rfl
  · have hno := not_exists.1 hevt
    obtain ⟨hcount, hcause⟩ := h.keeps_records hno
    exact .kept hno hcount hcause

/-- R28: no operation clears BAD_CMD. -/
theorem Effect.badCmd_sticky {i : Instr} {s t : State} (h : Effect i s t) (hs : s.badCmd = true) : t.badCmd = true := by
  cases h with
  | badCommand h => rfl
  | _ => simpa using hs

/-- A cycle without reset records what its operation does, or nothing. -/
theorem step_recordStep {s t : State} (hr : s.pins.rst = false) (h : step s = .next t) :
    RecordStep s t ∧ (s.badCmd = true → t.badCmd = true) := by
  obtain ⟨-, ⟨hrst, -⟩ | ⟨-, -, rfl⟩ | ⟨-, -, u, hu, rfl⟩⟩ := runCycle_next_cases h
  · exact absurd hrst (by simp [hr])
  · exact ⟨.kept (by simp) rfl rfl, id⟩
  · have hi := exec_effect hu
    refine ⟨?_, hi.badCmd_sticky⟩
    cases hi.recordStep rfl with
    | desync c hc hevt hcount hcause => exact .desync c hc hevt hcount hcause
    | kept hevt hcount hcause => exact .kept hevt hcount hcause

theorem le_satIncr (x : BitVec 16) : x.toNat ≤ (satIncr x).toNat := by
  rw [satIncr_toNat]
  omega

/-- Settles O47: the two cases of `step_recordStep`. -/
theorem errorRecordsClearOnlyAtReset : Obligations.ErrorRecordsClearOnlyAtReset := by
  unfold Obligations.ErrorRecordsClearOnlyAtReset
  intro s t hr h
  obtain ⟨hrecords, hsticky⟩ := step_recordStep hr h
  cases hrecords with
  | desync c hc hevt hcount hcause =>
    refine ⟨fun c' hc' => ?_, fun hno => absurd hevt (hno c), hcount ▸ le_satIncr _, fun _ => hcause ▸ hc, hsticky⟩
    obtain rfl : c = c' := by simpa [hevt] using hc'
    exact ⟨hc, hcount ▸ satIncr_toNat _, hcause⟩
  | kept hevt hcount hcause =>
    exact ⟨fun c hc => absurd hc (hevt c), fun _ => ⟨hcount, hcause⟩, by rw [hcount], fun hs => hcause ▸ hs, hsticky⟩

/-! Bad commands. -/

theorem isBadCommand_iff {c : Config} {i : Instr} : IsBadCommand c i ↔
    (∃ op, i = .reserved op) ∨ (∃ u v, i = .trackAdd u v ∧ u.toNat ≥ c.nt) ∨
      (∃ u v, i = .classifyTri u v ∧ u.toNat ≥ c.ns) ∨ (∃ u v, i = .classifyBin u v ∧ u.toNat ≥ c.nb) := by
  constructor
  · rintro (op | ⟨u, v, h⟩ | ⟨u, v, h⟩ | ⟨u, v, h⟩)
    · exact .inl ⟨op, rfl⟩
    · exact .inr (.inl ⟨u, v, rfl, h⟩)
    · exact .inr (.inr (.inl ⟨u, v, rfl, h⟩))
    · exact .inr (.inr (.inr ⟨u, v, rfl, h⟩))
  · rintro (⟨op, rfl⟩ | ⟨u, v, rfl, h⟩ | ⟨u, v, rfl, h⟩ | ⟨u, v, rfl, h⟩)
    · exact .reserved op
    · exact .trackAdd u v h
    · exact .classifyTri u v h
    · exact .classifyBin u v h

theorem Effect.isBadCommand {i : Instr} {s t : State} (h : Effect i s t) (hs : s.evt = none)
    (ht : t.evt = some .badCmd) : IsBadCommand s.cfg i := by
  cases h with
  | badCommand h => exact h
  | _ => simp [hs] at ht

/-- Only a bad command writes BAD_CMD (R21). -/
theorem Effect.keeps_badCmd {i : Instr} {s t : State} (h : Effect i s t) (ht : t.evt ≠ some .badCmd) :
    t.badCmd = s.badCmd := by
  cases h with
  | badCommand h => exact absurd rfl ht
  | _ => simp

/-- Settles O48: a bad command has one effect, `raiseBadCmd`, and no other effect signals BADCMD
(`Effect.isBadCommand`) or writes BAD_CMD (`Effect.keeps_badCmd`). -/
theorem badCommandsOnlySetBadCmd : Obligations.BadCommandsOnlySetBadCmd := by
  unfold Obligations.BadCommandsOnlySetBadCmd
  refine ⟨fun op s => exec_of_isBadCommand (.reserved op), fun w hw => ?word, fun i s t hs h => ?operation⟩
  case word => exact ⟨_, decodeWord_of_opField_ge (by rwa [opField_toNat])⟩
  case operation =>
    have hi := exec_effect h
    rw [← isBadCommand_iff]
    refine ⟨⟨hi.isBadCommand hs, fun hbad => ?signals⟩, fun ht => ?frame, hi.keeps_badCmd⟩
    case signals => rw [hi.unique (.badCommand hbad), State.raiseBadCmd_evt]
    case frame => exact hi.unique (.badCommand (hi.isBadCommand hs ht))

end Sys2Proof.Machine
end

section
/-! The events of the frame path: COMMIT, LIVE and ENCODED (spec/60_exceptions.md R227, R228). -/

namespace Sys2Proof.Machine

/-- FRAME_READY falls only when DECODE consumes the frame. -/
theorem Effect.frameReady_falls {i : Instr} {s t : State} (h : Effect i s t) (hs : s.frameReady = true)
    (ht : t.frameReady = false) : i = .decode := by
  cases h with
  | decode h => rfl
  | _ => simp [hs] at ht

theorem Effect.live_iff {i : Instr} {s t : State} (h : Effect i s t) (hs : s.evt = none) :
    t.evt = some .live ↔ i = .decode ∧ s.frameReady = true := by
  constructor
  · intro ht
    cases h with
    | decode h => exact ⟨rfl, h⟩
    | _ => simp [hs] at ht
  · rintro ⟨rfl, hr⟩
    rw [h.unique (.decode hr), State.signal_evt]

theorem Effect.commit_iff {i : Instr} {s t : State} (h : Effect i s t) (hs : s.evt = none) :
    t.evt = some .commit ↔ s.frameReady = false ∧ t.frameReady = true := by
  constructor
  · intro ht
    cases h with
    | commit h hr => exact ⟨hr, rfl⟩
    | _ => simp [hs] at ht
  · rintro ⟨hr, ht⟩
    obtain ⟨rfl, h24, -⟩ := h.frameReady_rises hr ht
    rw [h.unique (.commit h24 hr), State.commitFrame_evt]

theorem Effect.encoded_iff {i : Instr} {s t : State} (h : Effect i s t) (hs : s.evt = none) :
    t.evt = some .encoded ↔ i = .encode := by
  constructor
  · intro ht
    cases h with
    | encode => rfl
    | _ => simp [hs] at ht
  · rintro rfl
    rw [h.unique .encode, State.signal_evt]

/-- Settles O50: each event by its own lemma; a DECODE leaves no frame ready (`Effect.decode_frameReady`), and nothing
else lowers FRAME_READY (`Effect.frameReady_falls`). -/
theorem eventsMarkTheirOperations : Obligations.EventsMarkTheirOperations := by
  unfold Obligations.EventsMarkTheirOperations
  intro i s t hs h
  have hi := exec_effect h
  have hfalls : i = .decode ∧ s.frameReady = true ↔ s.frameReady = true ∧ t.frameReady = false := by
    constructor
    · rintro ⟨rfl, hr⟩
      exact ⟨hr, hi.decode_frameReady⟩
    · rintro ⟨hr, ht⟩
      exact ⟨hi.frameReady_falls hr ht, hr⟩
  exact ⟨hi.live_iff hs, (hi.live_iff hs).trans hfalls, hi.commit_iff hs, hi.encoded_iff hs⟩

end Sys2Proof.Machine
end

section
/-! The reset values (spec/70_reset_and_hazards.md R251), part by part: the frames, a tracker, and the lists of units,
which reset fills with copies of one unit. -/

namespace Sys2Proof.Machine

theorem Frame.zero_getElem {i : Nat} (h : i < 25) : Frame.zero[i] = 0x00 := Vector.getElem_replicate h

theorem ChannelSet.reset_ch_getElem {k : Nat} (h : k < 16) : ChannelSet.reset.ch[k] = 0 :=
  Vector.getElem_replicate h

theorem Tracker.reset_win_toNat {c : Config} (hok : c.ok = true) {v : Raw} (hv : v ∈ (Tracker.reset c).win) :
    v.toNat = c.releasedLevel := by
  rw [List.eq_of_mem_replicate hv, Config.releasedSample_toNat hok]

/-- The window of released samples does not exceed MAJ_THRESH. -/
theorem Tracker.reset_maj {c : Config} (hok : c.ok = true) : (Tracker.reset c).maj c = false := by
  rw [← Bool.not_eq_true, Tracker.maj_iff_sum_gt, Tracker.reset_sum hok]
  exact not_lt.2 (Config.released_sum_le_majThresh hok)

/-- A list of `n` copies has `n` entries, and what holds of the unit copied holds of each. -/
theorem replicate_forall_units {α : Type} {P : α → Prop} {a : α} (n : Nat) (h : P a) :
    (List.replicate n a).length = n ∧ ∀ x ∈ List.replicate n a, P x :=
  ⟨List.length_replicate, fun _ hx => List.eq_of_mem_replicate hx ▸ h⟩

/-- Settles O8: the scalar registers by definition of the reset state, the frames and channels slot by slot, STATUS by
`State.status_resetWith`, and every unit from the one unit its list copies; of these only the tracker needs a legal
configuration, for RELEASED_LEVEL to fit a sample and for its sum to stay within the threshold. -/
theorem resetStateHoldsListedValues : Obligations.ResetStateHoldsListedValues := by
  unfold Obligations.ResetStateHoldsListedValues
  intro c hok s
  refine ⟨rfl, rfl, fun _ h => ⟨Frame.zero_getElem h, Frame.zero_getElem h, Frame.zero_getElem h⟩, rfl, rfl, rfl,
    fun _ => ChannelSet.reset_ch_getElem, rfl, rfl, rfl, ?trackers, ?triUnits, ?binUnits, rfl,
    State.status_resetWith c⟩
  case trackers =>
    have hsum := Tracker.reset_sum hok
    have hdefault : c.n = 10 → c.releasedLevel = 174 → (Tracker.reset c).sum = 1740 :=
      fun hn hr => by rw [hsum, hn, hr]
    exact replicate_forall_units c.nt
      ⟨List.length_replicate, rfl, fun _ => Tracker.reset_win_toNat hok, hsum, hdefault, Tracker.reset_maj hok⟩
  case triUnits => exact replicate_forall_units c.ns ⟨rfl, rfl, rfl, rfl⟩
  case binUnits => exact replicate_forall_units c.nb ⟨rfl, rfl, rfl⟩

end Sys2Proof.Machine
end

section
/-! The encoder and the decoder undo each other (spec/30_encoding.md R76 to R81). `commandWord` is the word of shifts and
ors whose number and fields `unitValWord_toNat` and `unitValWord_fields` give. -/

namespace Sys2Proof.Machine

open Sys2Proof.Laws.OpField (opField_commandWord)

/-- The encoder's word is the one R81 writes with numbers. -/
theorem commandWord_eq_ofNat (op : BitVec 4) (u : UnitIx) (v : Raw) :
    commandWord op u v = BitVec.ofNat 32 (v.toNat <<< 8 ||| u.toNat <<< 4 ||| op.toNat) := by
  apply BitVec.eq_of_toNat_eq
  simp [commandWord, Nat.shiftLeft_eq]

theorem commandWord_toNat (op : BitVec 4) (u : UnitIx) (v : Raw) :
    (commandWord op u v).toNat = v.toNat * 2 ^ 8 + u.toNat * 2 ^ 4 + op.toNat := by
  rw [commandWord_eq_ofNat, unitValWord_toNat op.isLt]
  omega

@[simp] theorem unitField_commandWord (op : BitVec 4) (u : UnitIx) (v : Raw) : unitField (commandWord op u v) = u := by
  obtain ⟨-, hunit, -⟩ := unitValWord_fields op.isLt u v
  rw [commandWord_eq_ofNat, hunit]

@[simp] theorem valField_commandWord (op : BitVec 4) (u : UnitIx) (v : Raw) : valField (commandWord op u v) = v := by
  obtain ⟨-, -, hval⟩ := unitValWord_fields op.isLt u v
  rw [commandWord_eq_ofNat, hval]

/-- BYTE is the low part of VAL (R76). -/
theorem byteField_eq_setWidth_valField (w : CmdWord) : byteField w = (valField w).setWidth 8 := by
  apply BitVec.eq_of_getLsbD_eq
  intro j hj
  simp [byteField, valField, hj, show j < 11 by omega]

@[simp] theorem byteField_commandWord (op : BitVec 4) (u : UnitIx) (b : Byte) :
    byteField (commandWord op u (b.setWidth 11)) = b := by
  rw [byteField_eq_setWidth_valField, valField_commandWord, BitVec.setWidth_setWidth_of_le _ (by decide),
    BitVec.setWidth_eq]

/-- The encoder's word of an operation decodes to the operation (R76, R81). -/
theorem decodeWord_encodeWord {i : Instr} (h : i.wf = true) : decodeWord (encodeWord i) = i := by
  cases i with
  | pushByte b => simp [encodeWord, decodeWord, opField_commandWord]
  | trackAdd t v => simp [encodeWord, decodeWord, opField_commandWord]
  | classifyTri u v => simp [encodeWord, decodeWord, opField_commandWord]
  | classifyBin u v => simp [encodeWord, decodeWord, opField_commandWord]
  | reserved op =>
    have hop : opField (encodeWord (.reserved op)) = op := opField_commandWord op 0 0
    have hge : 8 ≤ op.toNat := of_decide_eq_true h
    rw [decodeWord_of_opField_ge (hop.symm ▸ hge), hop]
  | _ => rfl

/-- All 32 bits of a command word, read as a table word, are the command word (R79). -/
theorem decodeTableWord_toNat (w : CmdWord) : decodeTableWord 32 w.toNat = some (decodeWord w) := by
  have hw : BitVec.ofNat 32 (w.toNat % 2 ^ 32) = w := by
    rw [Nat.mod_eq_of_lt w.isLt, BitVec.ofNat_toNat, BitVec.setWidth_eq]
  simp only [decodeTableWord, decodeBits, hw, le_refl, if_true]

/-- Settles O1: the fields of the encoder's word are those its operation was made of (`decodeWord_encodeWord`), and the
table word reads the same bits. -/
theorem encodedInstrDecodesBack : Obligations.EncodedInstrDecodesBack := by
  unfold Obligations.EncodedInstrDecodesBack
  intro i h
  rw [decodeTableWord_toNat, decodeWord_encodeWord h]
  exact ⟨rfl, rfl⟩

end Sys2Proof.Machine
end

section
/-! The opcode table (spec/opcode_table.json): a row's mask covers op code bits only, and the decoder's choice of an
operation reads no others, so the table is checked on the sixteen op codes. -/

namespace Sys2Proof.Machine

/-- The mnemonic of a word is settled by its op code (R76). -/
theorem mnemonic_decodeWord_congr {w x : CmdWord} (h : opField w = opField x) :
    (decodeWord w).mnemonic = (decodeWord x).mnemonic := by
  unfold decodeWord
  rw [h]
  split <;> rfl

theorem opField_setWidth (op : BitVec 4) : opField (op.setWidth 32) = op := by
  revert op; decide

/-- A mask of op code bits sees the op code alone. -/
theorem and_opMask {w m : CmdWord} (hm : 0xF &&& m = m) : w &&& m = (opField w).setWidth 32 &&& m := by
  have hop : (opField w).setWidth 32 = w &&& 0xF := by
    apply BitVec.eq_of_toNat_eq
    rw [BitVec.toNat_setWidth, opField_toNat, Nat.mod_eq_of_lt (by omega)]
    exact (Nat.and_two_pow_sub_one_eq_mod w.toNat 4).symm
  rw [hop, BitVec.and_assoc, hm]

theorem opcodeTable_masks : ∀ r ∈ opcodeTable, 0xF &&& r.mask = r.mask := by decide

theorem opcodeTable_opcodes : ∀ op : BitVec 4, ∀ r ∈ opcodeTable,
    op.setWidth 32 &&& r.mask = r.pattern ↔ r.mnemonic = (decodeWord (op.setWidth 32)).mnemonic := by decide

/-- Settles O3: both sides see `opField w` alone (`and_opMask`, `mnemonic_decodeWord_congr`), and the sixteen op codes
agree with the nine rows (`opcodeTable_opcodes`). -/
theorem decoderAgreesWithOpcodeTable : Obligations.DecoderAgreesWithOpcodeTable := by
  unfold Obligations.DecoderAgreesWithOpcodeTable
  intro w r hr
  have hmnemonic := mnemonic_decodeWord_congr (opField_setWidth (opField w))
  rw [and_opMask (opcodeTable_masks r hr), opcodeTable_opcodes (opField w) r hr, hmnemonic]

/-- Settles O4: the words of the table are closed terms. -/
theorem vectorWordsDecode : Obligations.VectorWordsDecode := by
  unfold Obligations.VectorWordsDecode
  decide

end Sys2Proof.Machine
end

section
/-! Operation text (spec/30_encoding.md R81). -/

namespace Sys2Proof.Machine

/-- No line of operation text stands for a reserved op code. -/
theorem OpText.instr_wf (o : OpText) : o.instr.wf = true := by cases o <;> rfl

theorem OpText.decodeWord_word (o : OpText) : decodeWord o.word = o.instr := decodeWord_encodeWord o.instr_wf

theorem OpText.push_word_toNat (b : Byte) : (OpText.push b).word.toNat = b.toNat * 2 ^ 8 + 1 := by
  have hb : (b.setWidth 11).toNat = b.toNat := BitVec.toNat_setWidth_of_le (by decide)
  exact (commandWord_toNat 1 0 (b.setWidth 11)).trans (by simp [hb])

/-- Settles O5: a line's word decodes back as its operation is well-formed; the words as numbers are `commandWord_toNat`;
the pseudo-operations expand by definition. -/
theorem operationTextStandsForItsWords : Obligations.OperationTextStandsForItsWords := by
  unfold Obligations.OperationTextStandsForItsWords
  refine ⟨OpText.decodeWord_word, ⟨rfl, rfl, rfl, fun c => ⟨rfl, rfl⟩⟩, OpText.push_word_toNat,
    fun u v => ⟨commandWord_toNat 5 u v, commandWord_toNat 6 u v, commandWord_toNat 7 u v⟩, fun bs => rfl,
    fun c => ⟨by simp [TextLine.expand], rfl⟩, fun n o => ⟨List.length_replicate, fun x => List.eq_of_mem_replicate⟩⟩

end Sys2Proof.Machine
end

section
/-! A step as a whole cycle (spec/30_encoding.md R75, spec/60_exceptions.md R229, spec/70_reset_and_hazards.md R250): a
reset, or no command, or one operation with the event before it cleared and the port moved on after it. -/

namespace Sys2Proof.Machine

/-- R39: no operation writes what the integrator drives. -/
theorem Effect.keeps_port {i : Instr} {s t : State} (h : Effect i s t) : t.port = s.port := by
  cases h <;> simp

/-- A cycle with `rst = 1` (R250). -/
theorem step_of_reset {s : State} (hok : s.cfg.ok = true) (hr : s.pins.rst = true) : step s = .next s.resetCycle := by
  simp [step, runCycle, hok, hr]

/-- A cycle with a command and no reset (R253). -/
theorem step_of_command {s t : State} {i : Instr} (hok : s.cfg.ok = true) (hr : s.pins.rst = false)
    (hv : s.pins.cmdValid = true) (hi : decodeWord s.pins.cmd = i) (h : exec i s.beginCycle = .next t) :
    step s = .next t.endCycle := by
  simp [step, runCycle, State.accepted, hok, hr, hv, hi, h]

/-- A configuration that breaks a constraint is refused in every cycle (R7). -/
theorem step_of_bad_config {s : State} (hok : ¬ s.cfg.ok = true) : step s = .refused .badConfig := if_neg hok

/-- Settles O6: `step_of_command`; the port list that moves on is the one of the state before the operation
(`Effect.keeps_port`). -/
theorem commandCycleRunsDecodedInstr : Obligations.CommandCycleRunsDecodedInstr := by
  unfold Obligations.CommandCycleRunsDecodedInstr
  intro s t i hok hr hv hi h
  have hport : t.port = s.port := (exec_effect h).keeps_port
  rw [step_of_command hok hr hv hi h, State.endCycle, hport]

/-- Settles O7: `step_of_reset`. -/
theorem resetCycleGivesResetState : Obligations.ResetCycleGivesResetState := by
  unfold Obligations.ResetCycleGivesResetState
  exact fun s hok hr => ⟨s.resetCycle, step_of_reset hok hr, rfl, rfl, rfl⟩

/-- Settles O9: `config_ok_iff` says that the model checks the constraints of R7 and R190; under them each kind of cycle
ends in a next state, since every operation does (`everyInstrCompletesInEveryState`). -/
theorem onlyBrokenConfigurationStopsAStep : Obligations.OnlyBrokenConfigurationStopsAStep := by
  unfold Obligations.OnlyBrokenConfigurationStopsAStep
  intro s legal
  have hlegal : legal ↔ s.cfg.ok = true := (config_ok_iff s.cfg).symm
  rw [hlegal]
  refine ⟨fun hok => ?completes, step_of_bad_config⟩
  cases hr : s.pins.rst
  case true => exact ⟨_, step_of_reset hok hr⟩
  case false =>
    cases hv : s.pins.cmdValid
    case false => exact ⟨_, step_of_no_command hok hr hv⟩
    case true =>
      obtain ⟨t, ht⟩ := everyInstrCompletesInEveryState (decodeWord s.pins.cmd) s.beginCycle
      exact ⟨_, step_of_command hok hr hv rfl ht⟩

/-- A run of one cycle and `n` more. -/
theorem run_succ_of_step {s t : State} (h : step s = .next t) (n : Nat) :
    Host.Core.run Sys2Proof.core (n + 1) s = Host.Core.run Sys2Proof.core n t := by
  have hcore : Sys2Proof.core.step s = .next t := h
  simp only [Host.Core.run, hcore]

/-- Settles O11: the first cycle of the text is a command cycle whose word decodes to its operation
(`OpText.decodeWord_word`), and the rest of the text is what then stands on the port. -/
theorem issuedOperationsRunInOrder : Obligations.IssuedOperationsRunInOrder := by
  unfold Obligations.IssuedOperationsRunInOrder
  intro o os s t hok h
  have hport : t.port = o.cycle :: (os.map OpText.cycle ++ s.port) := (exec_effect h).keeps_port
  have hend : t.endCycle = State.issue os { t with port := s.port } := by
    rw [State.endCycle, hport]
    rfl
  have hstep : step (s.issue (o :: os)) = .next t.endCycle :=
    step_of_command (s := s.issue (o :: os)) hok rfl rfl o.decodeWord_word h
  rw [hend] at hstep
  exact run_succ_of_step hstep os.length

end Sys2Proof.Machine
end

section
/-! The writers of each register (spec/10_state.md R21), one lemma a group of registers. -/

namespace Sys2Proof.Machine

theorem Effect.writes_sync {i : Instr} {s t : State} (h : Effect i s t) :
    t.asmCnt ≠ s.asmCnt ∨ t.desyncCount ≠ s.desyncCount ∨ t.lastCause ≠ s.lastCause →
      (∃ b, i = .pushByte b) ∨ i = .idleGap := by
  cases h with
  | startByte h => exact fun _ => .inl ⟨_, rfl⟩
  | nextByte n h hn => exact fun _ => .inl ⟨_, rfl⟩
  | badEnd h hb => exact fun _ => .inl ⟨_, rfl⟩
  | overrun h hr => exact fun _ => .inl ⟨_, rfl⟩
  | commit h hr => exact fun _ => .inl ⟨_, rfl⟩
  | gap h => exact fun _ => .inr rfl
  | _ => simp

theorem Effect.writes_bytes {i : Instr} {s t : State} (h : Effect i s t) :
    t.stage ≠ s.stage ∨ t.frame ≠ s.frame → ∃ b, i = .pushByte b := by
  cases h with
  | startByte h => exact fun _ => ⟨_, rfl⟩
  | nextByte n h hn => exact fun _ => ⟨_, rfl⟩
  | badEnd h hb => exact fun _ => ⟨_, rfl⟩
  | overrun h hr => exact fun _ => ⟨_, rfl⟩
  | commit h hr => exact fun _ => ⟨_, rfl⟩
  | _ => simp

/-- FRAME is written by a commit alone, which raises FRAME_READY (R24, R25). -/
theorem Effect.writes_frame {i : Instr} {s t : State} (h : Effect i s t) :
    t.frame ≠ s.frame → s.frameReady = false ∧ t.frameReady = true := by
  cases h with
  | commit h hr => exact fun _ => ⟨hr, rfl⟩
  | _ => simp

theorem Effect.writes_badCmd {i : Instr} {s t : State} (h : Effect i s t) :
    t.badCmd ≠ s.badCmd → t.badCmd = true ∧ t.evt = some .badCmd := by
  cases h with
  | badCommand h => exact fun _ => ⟨rfl, rfl⟩
  | _ => simp

theorem Effect.writes_cs {i : Instr} {s t : State} (h : Effect i s t) : t.cs ≠ s.cs → i = .decode := by
  cases h with
  | decode h => exact fun _ => rfl
  | _ => simp

theorem Effect.writes_txFrame {i : Instr} {s t : State} (h : Effect i s t) : t.txFrame ≠ s.txFrame → i = .encode := by
  cases h with
  | encode => exact fun _ => rfl
  | _ => simp

/-- Rewriting one element of a list changes that element alone. -/
theorem eq_of_modify_ne {α : Type} {l : List α} {f : α → α} {j k : Nat} (h : (l.modify j f)[k]? ≠ l[k]?) : j = k :=
  not_not.1 fun hne => h (List.getElem?_modify_ne _ _ hne)

theorem Effect.writes_trk {i : Instr} {s t : State} (h : Effect i s t) (k : Nat) :
    t.trk[k]? ≠ s.trk[k]? → ∃ u v, i = .trackAdd u v ∧ u.toNat = k := by
  cases h with
  | trackAdd h => exact fun hk => ⟨_, _, rfl, eq_of_modify_ne hk⟩
  | _ => simp

theorem Effect.writes_tri {i : Instr} {s t : State} (h : Effect i s t) (k : Nat) :
    t.tri[k]? ≠ s.tri[k]? → ∃ u v, i = .classifyTri u v ∧ u.toNat = k := by
  cases h with
  | classifyTri h => exact fun hk => ⟨_, _, rfl, eq_of_modify_ne hk⟩
  | _ => simp

theorem Effect.writes_bin {i : Instr} {s t : State} (h : Effect i s t) (k : Nat) :
    t.bin[k]? ≠ s.bin[k]? → ∃ u v, i = .classifyBin u v ∧ u.toNat = k := by
  cases h with
  | classifyBin h => exact fun hk => ⟨_, _, rfl, eq_of_modify_ne hk⟩
  | _ => simp

/-- The number of units of each kind is fixed (R39). -/
theorem Effect.keeps_unit_counts {i : Instr} {s t : State} (h : Effect i s t) :
    t.trk.length = s.trk.length ∧ t.tri.length = s.tri.length ∧ t.bin.length = s.bin.length := by
  cases h <;> simp

/-- Settles O53: each clause is the lemma about its registers. -/
theorem registersChangeOnlyByTheirWriters : Obligations.RegistersChangeOnlyByTheirWriters := by
  unfold Obligations.RegistersChangeOnlyByTheirWriters
  intro i s t h
  have hi := exec_effect h
  obtain ⟨htrk, htri, hbin⟩ := hi.keeps_unit_counts
  refine ⟨hi.writes_sync, hi.writes_bytes, fun ht hs => ?rises, fun ht hs => hi.frameReady_falls hs ht, hi.writes_frame,
    hi.writes_badCmd, hi.writes_cs, hi.writes_txFrame, hi.writes_trk, hi.writes_tri, hi.writes_bin, htrk, htri, hbin,
    hi.keeps_cfg, hi.keeps_port⟩
  obtain ⟨hpush, -, -⟩ := hi.frameReady_rises hs ht
  exact ⟨_, hpush⟩

end Sys2Proof.Machine
end

section
/-! The invariant of the block (spec/10_state.md R22 to R36), part by part over the effects of an operation. -/

namespace Sys2Proof.Machine

/-- R102: the frame held when FRAME_READY rises is valid. -/
theorem Effect.frame_markerValid_of_rises {i : Instr} {s t : State} (h : Effect i s t) (hstage : s.stageInv)
    (hs : s.frameReady = false) (ht : t.frameReady = true) : t.frame.markerValid := by
  obtain ⟨-, h24, hframe⟩ := h.frameReady_rises hs ht
  rw [hframe, markerValid_set_last_iff]
  exact ⟨hstage (by rw [h24]; decide), rfl⟩

/-- R24, R25: while FRAME_READY stays 1 the held frame stays, and it rises with a valid one. -/
theorem Effect.keeps_frameInv {i : Instr} {s t : State} (h : Effect i s t) (hstage : s.stageInv) (hs : s.frameInv) :
    t.frameInv := by
  obtain ⟨hframe, hready⟩ := hs
  refine ⟨?frame, fun ht => ?ready⟩
  case frame =>
    obtain hsame | hvalid := h.frame_eq_or_markerValid hstage
    · exact hsame ▸ hframe
    · exact .inr hvalid
  case ready =>
    cases hr : s.frameReady
    case false => exact h.frame_markerValid_of_rises hstage hr ht
    case true =>
      have hsame : t.frame = s.frame := by
        by_contra hne
        obtain ⟨hr', -⟩ := h.writes_frame hne
        exact absurd hr (by simp [hr'])
      exact hsame ▸ hready hr

/-- R133: what ENCODE writes has both markers. -/
theorem encodeFrame_markerValid (c : ChannelSet) : (encodeFrame c).markerValid :=
  ⟨encodeFrame_start c, encodeFrame_end c⟩

theorem Effect.keeps_txInv {i : Instr} {s t : State} (h : Effect i s t) (hs : s.txInv) : t.txInv := by
  cases h with
  | encode => exact .inr (encodeFrame_markerValid _)
  | _ => simpa [State.txInv] using hs

/-- R26, R27: a desync records a cause other than NONE and leaves the count above 0. -/
theorem State.raiseDesync_causeInv (s : State) {c : Cause} (hc : c ≠ .noDesync) : (s.raiseDesync c).causeInv :=
  iff_of_false hc (satIncr_ne_zero s.desyncCount)

theorem Effect.keeps_causeInv {i : Instr} {s t : State} (h : Effect i s t) (hs : s.causeInv) : t.causeInv := by
  cases h with
  | badEnd h hb => exact State.raiseDesync_causeInv _ (by decide)
  | overrun h hr => exact State.raiseDesync_causeInv _ (by decide)
  | gap h => exact State.raiseDesync_causeInv _ (by decide)
  | _ => simpa [State.causeInv] using hs

/-- R132: DECODE gives one of the three statuses. -/
theorem statusOfFlags_ne_reserved3 (b : Byte) : statusOfFlags b ≠ .reserved3 := by
  unfold statusOfFlags
  split_ifs <;> simp

theorem Effect.keeps_csInv {i : Instr} {s t : State} (h : Effect i s t) (hs : s.csInv) : t.csInv := by
  cases h with
  | decode h => exact statusOfFlags_ne_reserved3 _
  | _ => simpa [State.csInv] using hs

/-- Rewriting one unit with what keeps its invariant keeps the number of units and the invariant of each. -/
theorem modify_forall_units {α : Type} {P : α → Prop} {l : List α} {n k : Nat} {f : α → α}
    (hf : ∀ a, P a → P (f a)) (h : l.length = n ∧ ∀ a ∈ l, P a) :
    (l.modify k f).length = n ∧ ∀ a ∈ l.modify k f, P a := by
  obtain ⟨hlen, hall⟩ := h
  refine ⟨by rw [List.length_modify, hlen], fun a ha => ?_⟩
  obtain hold | ⟨b, hb, rfl⟩ := mem_modify ha
  · exact hall a hold
  · exact hf b (hall b hb)

theorem Config.one_le_k {c : Config} (h : c.ok = true) : 1 ≤ c.k := by
  simp only [Config.ok, Bool.and_eq_true, decide_eq_true_eq] at h
  omega

/-- R33 to R36: one sample keeps the invariant of its unit. -/
theorem Effect.keeps_unitsInv {i : Instr} {s t : State} (h : Effect i s t) (hok : s.cfg.ok = true) (hs : s.unitsInv) :
    t.unitsInv := by
  have hk : 1 ≤ s.cfg.k := Config.one_le_k hok
  have hn : 1 ≤ s.cfg.n := Config.one_le_n hok
  have ⟨htrk, htri, hbin⟩ := hs
  cases h with
  | trackAdd h => exact ⟨modify_forall_units (fun tr => tr.add_inv s.cfg hn _) htrk, htri, hbin⟩
  | classifyTri h => exact ⟨htrk, modify_forall_units (fun u => u.sample_inv _ hk _ _) htri, hbin⟩
  | classifyBin h => exact ⟨htrk, htri, modify_forall_units (fun u => u.sample_inv _ hk _ _) hbin⟩
  | _ => simpa [State.unitsInv] using hs

/-- Every operation keeps the invariant. -/
theorem Effect.keeps_inv {i : Instr} {s t : State} (h : Effect i s t) (hs : s.Inv) : t.Inv where
  cfg := h.keeps_cfg ▸ hs.cfg
  stage := h.keeps_stageInv hs.stage
  frame := h.keeps_frameInv hs.stage hs.frame
  tx := h.keeps_txInv hs.tx
  cause := h.keeps_causeInv hs.cause
  cs := h.keeps_csInv hs.cs
  units := h.keeps_unitsInv hs.cfg hs.units

/-- The invariant is about neither the event shown nor the port list. -/
theorem State.Inv.with_port {s : State} (h : s.Inv) (e : Option Event) (p : List PortCycle) :
    State.Inv { s with evt := e, port := p } :=
  ⟨h.cfg, h.stage, h.frame, h.tx, h.cause, h.cs, h.units⟩

theorem TriUnit.reset_inv (k : Nat) : TriUnit.reset.inv k := by
  simp [TriUnit.inv, TriUnit.reset]

theorem BinUnit.reset_inv (k : Nat) : BinUnit.reset.inv k := by
  simp [BinUnit.inv, BinUnit.reset]

/-- R251: the reset state of a legal configuration meets the invariant. -/
theorem State.resetWith_inv {c : Config} (hok : c.ok = true) : (State.resetWith c).Inv where
  cfg := hok
  stage := State.stageInv_of_hunt rfl
  frame := ⟨.inl rfl, fun h => absurd h (by simp [State.resetWith])⟩
  tx := .inl rfl
  cause := iff_of_true rfl rfl
  cs := by simp [State.csInv, State.resetWith, ChannelSet.reset]
  units := ⟨replicate_forall_units c.nt (Tracker.reset_inv (Config.one_le_n hok)),
    replicate_forall_units c.ns (TriUnit.reset_inv c.k), replicate_forall_units c.nb (BinUnit.reset_inv c.k)⟩

/-- Settles O55: `State.resetWith_inv`, for `State.reset` with its legal configuration. -/
theorem resetMeetsTheInvariant : Obligations.ResetMeetsTheInvariant := by
  unfold Obligations.ResetMeetsTheInvariant
  exact ⟨fun c => State.resetWith_inv, State.resetWith_inv (by decide)⟩

/-- Settles O54: a cycle resets, or does nothing, or runs one operation (`runCycle_next_cases`), each of which keeps the
invariant. -/
theorem everyStepKeepsTheInvariant : Obligations.EveryStepKeepsTheInvariant := by
  unfold Obligations.EveryStepKeepsTheInvariant
  intro s t hs h
  obtain ⟨hok, ⟨-, rfl⟩ | ⟨-, -, rfl⟩ | ⟨-, -, u, hu, rfl⟩⟩ := runCycle_next_cases h
  · exact (State.resetWith_inv hok).with_port none s.port.tail
  · exact hs.with_port none s.port.tail
  · exact ((exec_effect hu).keeps_inv (hs.with_port none s.port)).with_port u.evt u.port.tail

/-- A value below 2 to the bit length of a bound it does not exceed. -/
theorem lt_two_pow_bitLength_of_le {a b : Nat} (h : a ≤ b) : a < 2 ^ bitLength b := h.trans_lt (lt_two_pow_bitLength b)

theorem Tracker.inv.wp_lt {c : Config} {tr : Tracker} (h : tr.inv c) : tr.wp < 2 ^ c.wpW := by
  obtain ⟨-, hwp⟩ := h
  calc tr.wp < 2 ^ bitLength (c.n - 1) := lt_two_pow_bitLength_of_le (by omega)
    _ ≤ 2 ^ c.wpW := Nat.pow_le_pow_right (by decide) (Nat.le_max_right _ _)

/-- A counter that stops short of K fits CNT_W bits (R7). -/
theorem lt_two_pow_cntW {c : Config} {n : Nat} (h : n ≤ c.k - 1) : n < 2 ^ c.cntW :=
  lt_two_pow_bitLength_of_le (h.trans (Nat.sub_le _ _))

/-- Settles O56: the invariant bounds each register by N − 1 or K − 1, whose bit lengths the widths are. -/
theorem registersFitTheirWidths : Obligations.RegistersFitTheirWidths := by
  unfold Obligations.RegistersFitTheirWidths
  intro s hs
  obtain ⟨⟨-, htrk⟩, ⟨-, htri⟩, ⟨-, hbin⟩⟩ := hs.units
  refine ⟨fun tr h => ?trk, fun u h => ?tri, fun u h => ?bin, s.asmCnt.isLt.trans (by decide)⟩
  case trk =>
    have htr := htrk tr h
    exact ⟨htr.wp_lt, htr.1⟩
  case tri =>
    obtain ⟨⟨hconf, hexit⟩, -⟩ := htri u h
    exact ⟨lt_two_pow_cntW hconf, lt_two_pow_cntW hexit⟩
  case bin =>
    obtain ⟨⟨hconf, hexit⟩, -⟩ := hbin u h
    exact ⟨lt_two_pow_cntW hconf, lt_two_pow_cntW hexit⟩

end Sys2Proof.Machine
end

section
/-! The frame guarantee at the command port (spec/40_frame_sync.md R107): the operations of a text, one cycle each, collect
the frame as the same operations run one after another do. -/

namespace Sys2Proof.Machine

/-- What the operations of the synchronizer leave as it is: the parameters, the ChannelSet and the port list. -/
structure State.SameSetting (s t : State) : Prop where
  cfg : t.cfg = s.cfg
  cs : t.cs = s.cs
  port : t.port = s.port

theorem State.SameSetting.refl (s : State) : s.SameSetting s := ⟨rfl, rfl, rfl⟩

theorem State.SameSetting.trans {s t u : State} (h : s.SameSetting t) (h' : t.SameSetting u) : s.SameSetting u :=
  ⟨h'.cfg.trans h.cfg, h'.cs.trans h.cs, h'.port.trans h.port⟩

/-- The window is kept in registers of its own: neither the event shown nor the port list has a part in it. -/
theorem State.Collects.of_issue {s u : State} {bs : List Byte} {ops : List OpText}
    (h : (s.issue ops).beginCycle.Collects bs u) : s.Collects bs { u with port := s.port } :=
  ⟨h.collected, h.frame, h.desyncCount, h.frameReady⟩

/-- The first operation of an issued text has its effect on the state with the text on its port and no event shown; the
rest of the text runs from there. -/
theorem issue_cons_effect (o : OpText) (os : List OpText) {s : State} (hok : s.cfg.ok = true) (hne : o.instr ≠ .decode) :
    ∃ u : State, Effect o.instr (s.issue (o :: os)).beginCycle u ∧
      runText (o :: os) s = runText os { u with port := s.port } ∧ s.SameSetting { u with port := s.port } := by
  obtain ⟨u, hu⟩ := everyInstrCompletesInEveryState o.instr (s.issue (o :: os)).beginCycle
  have heffect := exec_effect hu
  have hcs : u.cs = s.cs := not_not.1 fun hcs => hne (heffect.writes_cs hcs)
  exact ⟨u, heffect, issuedOperationsRunInOrder o os s u hok hu, heffect.keeps_cfg, hcs, rfl⟩

/-- Pushing at most 24 bytes, in a window or opening one, collects them and leaves the rest of the text to run. -/
theorem runText_push_collects (bs : List Byte) (rest : List OpText) {s : State} (hok : s.cfg.ok = true)
    (hs : s.asmCnt = 0 → ∃ tl, bs = startMark :: tl) (hroom : s.asmCnt.val + bs.length ≤ 24) :
    ∃ t, runText (bs.map OpText.push ++ rest) s = runText rest t ∧ s.Collects bs t ∧ s.SameSetting t := by
  induction bs generalizing s with
  | nil => exact ⟨s, rfl, .refl s, .refl s⟩
  | cons b bs ih =>
    obtain ⟨u, heffect, hrun, hset⟩ :=
      issue_cons_effect (.push b) (bs.map OpText.push ++ rest) hok (by simp [OpText.instr])
    have hstart : s.asmCnt = 0 → Instr.pushByte b = .pushByte startMark := fun h0 => by
      obtain ⟨_, heq⟩ := hs h0
      rw [(List.cons.inj heq).1]
    rw [List.length_cons] at hroom
    have hroomb : s.asmCnt.val + (pushedBytes [.pushByte b]).length ≤ 24 := by
      show s.asmCnt.val + 1 ≤ 24
      omega
    have hb : s.Collects (pushedBytes [.pushByte b]) { u with port := s.port } :=
      (heffect.syncStep.collects (by simp [OpText.instr]) hstart hroomb).of_issue
    have hopen := hb.asmCnt_ne_zero hstart
    have hcnt : u.asmCnt.val = s.asmCnt.val + 1 := hb.asmCnt
    obtain ⟨t, hrest, hcollects, hset'⟩ := ih (s := { u with port := s.port }) (hset.cfg ▸ hok)
      (fun h0 => absurd h0 hopen) (by show u.asmCnt.val + bs.length ≤ 24; omega)
    exact ⟨t, hrun.trans hrest, hb.trans hcollects, hset.trans hset'⟩

/-- IDLE_GAP issued on the port leaves the synchronizer in hunt, with the frame registers as they were (R104). -/
theorem runText_gap (rest : List OpText) {s : State} (hok : s.cfg.ok = true) :
    ∃ t, runText (.gap :: rest) s = runText rest t ∧ t.asmCnt = 0 ∧ t.frameReady = s.frameReady ∧ s.SameSetting t := by
  obtain ⟨u, heffect, hrun, hset⟩ := issue_cons_effect .gap rest hok (by simp [OpText.instr])
  obtain ⟨hhunt, -, hready, -⟩ := heffect.idleGap_keeps_frames
  exact ⟨_, hrun, hhunt, hready, hset⟩

/-- The last byte of a valid frame, issued with the other 24 collected and no frame held, commits the frame (R100). -/
theorem runText_push_commits {f : Frame} {s : State} (hf : f.markerValid) (hok : s.cfg.ok = true) (h24 : s.asmCnt = 24)
    (hcol : s.collected = f.toList.take 24) (hr : s.frameReady = false) :
    ∃ t, runText [.push endMark] s = .next t ∧ t.frame = f ∧ t.frameReady = true ∧ t.asmCnt = 0 ∧
      t.evt = some .commit ∧ s.SameSetting t := by
  obtain ⟨u, heffect, hrun, hset⟩ := issue_cons_effect (.push endMark) [] hok (by simp [OpText.instr])
  obtain rfl := heffect.unique (.commit h24 hr)
  obtain ⟨-, -, hframe⟩ := heffect.frameReady_rises hr rfl
  exact ⟨_, hrun, hframe.trans (stage_set_last_eq hf h24 hcol), rfl, rfl, rfl, hset⟩

theorem markerValid_take {f : Frame} (hf : f.markerValid) : ∃ tl, f.toList.take 24 = startMark :: tl := by
  rw [← List.head?_eq_some_iff, List.head?_take, List.head?_eq_getElem?]
  simp [hf.1]

theorem markerValid_toList {f : Frame} (hf : f.markerValid) : f.toList = f.toList.take 24 ++ [endMark] := by
  rw [← toList_set_last, ← hf.2, Vector.set_getElem_self]

/-- Settles O19: the gap reaches hunt (`runText_gap`), the first 24 bytes are collected (`runText_push_collects`) and the
last commits them (`runText_push_commits`). -/
theorem gapThenValidFrameCommitsAtThePort : Obligations.GapThenValidFrameCommitsAtThePort := by
  unfold Obligations.GapThenValidFrameCommitsAtThePort
  intro f s hf hok hr
  have hhead := markerValid_take hf
  have hlen : (f.toList.take 24).length = 24 := by simp
  have htext : f.toList.map OpText.push = (f.toList.take 24).map OpText.push ++ [.push endMark] := by
    conv_lhs => rw [markerValid_toList hf, List.map_append]
    rfl
  rw [htext]
  obtain ⟨a, hgap, hhunt, hready, hset⟩ := runText_gap ((f.toList.take 24).map OpText.push ++ [.push endMark]) hok
  have hoka : a.cfg.ok = true := hset.cfg ▸ hok
  obtain ⟨b, hpush, hcollects, hset'⟩ :=
    runText_push_collects (f.toList.take 24) [.push endMark] hoka (fun _ => hhead) (by rw [hhunt, hlen]; decide)
  have h24 : b.asmCnt = 24 := Fin.ext (by rw [hcollects.asmCnt, hhunt, hlen]; rfl)
  have hcol : b.collected = f.toList.take 24 := by
    rw [hcollects.collected, State.collected_of_hunt hhunt, List.nil_append]
  obtain ⟨t, hlast, hframe, hheld, hhunt', hevt, hset''⟩ :=
    runText_push_commits hf (hset'.cfg ▸ hoka) h24 hcol (hcollects.frameReady (hready.trans hr))
  have hall : s.SameSetting t := (hset.trans hset').trans hset''
  exact ⟨t, hgap.trans (hpush.trans hlast), hframe, hheld, hhunt', hevt, hall.cs, hall.port⟩

/-- Settles O21: the first commit leaves hunt, and the second needs a full window opened since
(`commitNeedsFullWindowFromStartMarker`): its start marker, 23 bytes and the end marker. -/
theorem commitsAreTwentyFivePushesApart : Obligations.CommitsAreTwentyFivePushesApart := by
  unfold Obligations.CommitsAreTwentyFivePushesApart
  intro i j ops s s' t u hi hs hs' hops hj ht hu
  obtain ⟨rfl, h24, -⟩ := (exec_effect hi).frameReady_rises hs hs'
  have hhunt : s'.asmCnt = 0 := by
    rw [exec_pushByte_commit h24 hs] at hi
    rw [next_inj hi]
  obtain ⟨hcommit, -⟩ := commitNeedsFullWindowFromStartMarker
  obtain ⟨rfl, -, -, before, rest, -, rfl, -, -, -, hlen, -⟩ := hcommit ops j s' t u hhunt hops hj ht hu
  have hpushed : (pushedBytes (before ++ .pushByte 0x0F :: rest ++ [.pushByte 0x00])).length =
      (pushedBytes before).length + (1 + 23 + 1) := by
    simp only [pushedBytes_append, pushedBytes_cons _ rest, List.length_append, hlen]
    rfl
  omega

end Sys2Proof.Machine
end

section
/-! The event port (spec/60_exceptions.md R227): each event has one bit of its own, and a desync its cause besides. -/

namespace Sys2Proof.Machine

/-- The bit of `evt_o` that marks an event: COMMIT 0, DESYNC 1, LIVE 4, ENCODED 5, BADCMD 6. -/
def Event.flag : Event → Nat
  | .commit => 0
  | .desync _ => 1
  | .live => 4
  | .encoded => 5
  | .badCmd => 6

theorem Event.flag_mem (e : Event) : e.flag ∈ [0, 1, 4, 5, 6] := by cases e <;> simp [Event.flag]

theorem Event.flag_eq_one_iff (e : Event) : e.flag = 1 ↔ ∃ c, e = .desync c := by cases e <;> simp [Event.flag]

/-- Bit 1 stands for the desync events of every cause, each other bit for one event. -/
theorem Event.flag_eq_flag_iff {e : Event} (he : e.flag ≠ 1) (e' : Event) : e'.flag = e.flag ↔ e' = e := by
  cases e with
  | desync c => exact absurd rfl he
  | _ => cases e' <;> simp [Event.flag]

/-- Of the five marking bits an event sets its own and no other. -/
theorem Event.bits_getLsbD_iff (e : Event) : ∀ i ∈ [0, 1, 4, 5, 6], e.bits.getLsbD i = true ↔ e.flag = i := by
  cases e with
  | desync c => cases c <;> decide
  | _ => decide

/-- Bits 3:2 hold the cause of a desync (R220). -/
theorem Event.bits_desync_cause (c : Cause) : (Event.desync c).bits.extractLsb' 2 2 = c.code := by
  cases c <;> decide

theorem Event.bits_cause_of_ne_desync {e : Event} (h : ∀ c, e ≠ .desync c) : e.bits.extractLsb' 2 2 = 0 := by
  cases e with
  | desync c => exact absurd rfl (h c)
  | _ => decide

theorem State.evtBits_of_none {s : State} (h : s.evt = none) : s.evtBits = 0 := by
  simp only [State.evtBits, h]

theorem State.evtBits_of_some {s : State} {e : Event} (h : s.evt = some e) : s.evtBits = e.bits := by
  simp only [State.evtBits, h]

/-- A marking bit is set exactly while the register holds the event it marks. -/
theorem State.evtBits_getLsbD_iff (s : State) {i : Nat} (hi : i ∈ [0, 1, 4, 5, 6]) :
    s.evtBits.getLsbD i = true ↔ ∃ e, s.evt = some e ∧ e.flag = i := by
  cases h : s.evt with
  | none => simp [State.evtBits_of_none h]
  | some e => simp [State.evtBits_of_some h, e.bits_getLsbD_iff i hi]

/-- The bit that marks one event only. -/
theorem State.evtBits_getLsbD_flag (s : State) {e : Event} (he : e.flag ≠ 1) :
    s.evtBits.getLsbD e.flag = decide (s.evt = some e) := by
  rw [Bool.eq_iff_iff, s.evtBits_getLsbD_iff e.flag_mem, decide_eq_true_eq]
  simp [Event.flag_eq_flag_iff he]

theorem State.evtBits_desync_iff (s : State) : s.evtBits.getLsbD 1 = true ↔ ∃ c, s.evt = some (.desync c) := by
  rw [s.evtBits_getLsbD_iff (by simp)]
  constructor
  · rintro ⟨e, he, h1⟩
    obtain ⟨c, rfl⟩ := e.flag_eq_one_iff.1 h1
    exact ⟨c, he⟩
  · rintro ⟨c, hc⟩
    exact ⟨_, hc, rfl⟩

theorem State.evtBits_cause_of_no_desync {s : State} (h : ∀ c, s.evt ≠ some (.desync c)) :
    s.evtBits.extractLsb' 2 2 = 0 := by
  cases he : s.evt with
  | none => rw [State.evtBits_of_none he]; rfl
  | some e =>
    rw [State.evtBits_of_some he, Event.bits_cause_of_ne_desync]
    rintro c rfl
    exact h c he

/-- R227: no event is held after a cycle that accepts no operation. -/
theorem step_evt_none {s t : State} (h : step s = .next t) (hno : s.pins.rst = true ∨ s.pins.cmdValid = false) :
    t.evt = none := by
  obtain ⟨-, ⟨-, rfl⟩ | ⟨-, -, rfl⟩ | ⟨hr, hv, -⟩⟩ := runCycle_next_cases h
  · rfl
  · rfl
  · simp [hr, hv] at hno

/-- Settles O49: the marking bits by `State.evtBits_getLsbD_iff`, so two that are set mark the one event held; the cause
bits by the two kinds of event; and `step_evt_none`. -/
theorem eventPortShowsOneEvent : Obligations.EventPortShowsOneEvent := by
  unfold Obligations.EventPortShowsOneEvent
  refine ⟨fun s => ⟨?commit, s.evtBits_desync_iff, fun c hc => ?cause, fun hno => ?noCause, ?live, ?encoded, ?badCmd,
    fun i hi j hj hbi hbj => ?one⟩, fun s t h hno => State.evtBits_of_none (step_evt_none h hno)⟩
  case commit => exact s.evtBits_getLsbD_flag (e := .commit) (by decide)
  case live => exact s.evtBits_getLsbD_flag (e := .live) (by decide)
  case encoded => exact s.evtBits_getLsbD_flag (e := .encoded) (by decide)
  case badCmd => exact s.evtBits_getLsbD_flag (e := .badCmd) (by decide)
  case cause => rw [State.evtBits_of_some hc, Event.bits_desync_cause]
  case noCause =>
    refine State.evtBits_cause_of_no_desync fun c hc => ?_
    rw [s.evtBits_desync_iff.2 ⟨c, hc⟩] at hno
    cases hno
  case one =>
    obtain ⟨e, he, rfl⟩ := (s.evtBits_getLsbD_iff hi).1 hbi
    obtain ⟨e', he', rfl⟩ := (s.evtBits_getLsbD_iff hj).1 hbj
    rw [Option.some.inj (he.symm.trans he')]

end Sys2Proof.Machine
end

section
/-! The output ports (spec/30_encoding.md R75): each is a register or a function of one unit. -/

namespace Sys2Proof.Machine

theorem bit_eq_ite (b : Bool) : bit b = if b then 1 else 0 := by cases b <;> rfl

theorem bit_maj_eq_ite (c : Config) (tr : Tracker) : bit (tr.maj c) = if tr.sum > c.majThresh then 1 else 0 := by
  rw [bit_eq_ite]
  exact if_congr (Tracker.maj_iff_sum_gt c tr) rfl rfl

/-- Settles O57: the ports of single registers by definition; the ports of the units are maps over the unit lists, so they
have an entry a unit and show at each number the unit of that number. -/
theorem outputPortsShowTheirRegisters : Obligations.OutputPortsShowTheirRegisters := by
  unfold Obligations.OutputPortsShowTheirRegisters
  refine ⟨fun s => ⟨rfl, bit_eq_ite _, rfl, bit_eq_ite _, bit_eq_ite _, rfl, rfl, rfl, rfl, rfl, fun t tr h => ?trackers,
    fun k q h => ?tri, fun k q h => ?bin, List.length_map _, List.length_map _, List.length_map _, List.length_map _⟩,
    ⟨rfl, rfl, rfl⟩, rfl, rfl⟩
  case trackers =>
    refine ⟨?sum, by rw [State.outputs_trkMaj_getElem? h, bit_maj_eq_ite]⟩
    rw [State.outputs, List.getElem?_map, h, Option.map_some]
  case tri => rw [State.outputs, List.getElem?_map, h, Option.map_some]
  case bin => rw [State.outputs, List.getElem?_map, h, Option.map_some]

end Sys2Proof.Machine
end

section
/-! False lock (spec/40_frame_sync.md R108), by program P3 of spec/95_test_vectors.md, and the order of the tests
on the last byte (spec/60_exceptions.md R226). -/

namespace Sys2Proof.Machine

/-- Fa, the frame on the line while reset is released: a 0x0F stands at byte 5. -/
def lockFrame : Frame :=
  #v[0x0F, 0x11, 0x11, 0x11, 0x11, 0x0F, 0x11, 0x11, 0x11, 0x11, 0x11, 0x11, 0x11, 0x11, 0x11, 0x11, 0x11, 0x11, 0x11,
    0x11, 0x11, 0x11, 0x11, 0x00, 0x00]

/-- Fb, the frame after it: a 0x00 stands at byte 4. -/
def nextFrame : Frame :=
  #v[0x0F, 0x22, 0x22, 0x22, 0x00, 0x22, 0x22, 0x22, 0x22, 0x22, 0x22, 0x22, 0x22, 0x22, 0x22, 0x22, 0x22, 0x22, 0x22,
    0x22, 0x22, 0x22, 0x22, 0x00, 0x00]

/-- The window between: Fa from its byte 5 on, and Fb up to its byte 4. -/
def falseFrame : Frame :=
  #v[0x0F, 0x11, 0x11, 0x11, 0x11, 0x11, 0x11, 0x11, 0x11, 0x11, 0x11, 0x11, 0x11, 0x11, 0x11, 0x11, 0x11, 0x11, 0x00,
    0x00, 0x0F, 0x22, 0x22, 0x22, 0x00]

/-- Settles O20: from reset at byte 3 of Fa, the synchronizer collects from its byte 5 on and commits `falseFrame` on byte
4 of Fb. -/
theorem falseLockIsPossibleWithoutGap : Obligations.FalseLockIsPossibleWithoutGap := by
  unfold Obligations.FalseLockIsPossibleWithoutGap
  have hvalid : falseFrame.markerValid := by decide
  have hf : falseFrame ≠ nextFrame := by decide
  have hg : falseFrame ≠ lockFrame := by decide
  have hrun : ∃ s t, execAll ((lockFrame.toList.drop 3).map Instr.pushByte) State.reset = .next s ∧
      s.frameReady = false ∧ execAll (nextFrame.toList.map Instr.pushByte) s = .next t ∧ t.frameReady = true ∧ t.frame = falseFrame :=
    ⟨_, _, rfl, rfl, rfl, rfl, rfl⟩
  obtain ⟨s, t, hs, hr, ht, hready, hframe⟩ := hrun
  exact ⟨lockFrame, nextFrame, 3, s, t, by decide, by decide, by decide, by decide, hs, hr, ht, hready, hframe ▸ hvalid,
    hframe ▸ hf, hframe ▸ hg⟩

/-- Settles O51: a byte 24 that is no end marker has the effect `Effect.badEnd`, whether a frame is held or not. -/
theorem badEndIsTestedBeforeOverrun : Obligations.BadEndIsTestedBeforeOverrun := by
  unfold Obligations.BadEndIsTestedBeforeOverrun
  exact fun b s hb h24 hr => ⟨_, exec_of_effect (.badEnd h24 hb), rfl, satIncr_toNat _, rfl, rfl, rfl, hr, rfl⟩

end Sys2Proof.Machine
end
